-- ==== Sys2Proof/Word.lean ====
section
/-! DEFINITION. The words of the block: samples, registers, offsets (00_scope R7, R8), and the three encoded
forms (30_encoding R80): the CMDW data word, the BUSREQ request and the EVT label of a step. -/

namespace Sys2Proof

/-- A sample, a timestamp, the counter: W = 16 bits (R7). -/
abbrev Sample := BitVec 16

/-- A register of the window, and the data of a host access: 32 bits (R40, R62). -/
abbrev Word := BitVec 32

/-- A byte offset in the 0x200-byte window: 9 bits (R83). -/
abbrev Offset := BitVec 9

/-- DIR of a bus request, with the DATA word that is "present only when DIR = 1" (R83). -/
inductive Access where
  | read
  | write (data : Word)
deriving DecidableEq, Repr

/-- A BUSREQ (R83): OFF, SIZE in bytes (1, 2, 4 or any other size), DIR with DATA. -/
structure BusReq where
  off : Offset
  size : Nat
  access : Access
deriving DecidableEq, Repr

/-- The three encoded forms (R80). -/
inductive Form where
  | cmdw
  | busreq
  | evt
deriving DecidableEq, Repr

/-- An event as it labels a step: its 4-bit EVT code, with the BUSREQ operand that R85 gives BUS_READ and BUS_WRITE.
"Every step of the model carries exactly one of these" (R85). -/
structure Event where
  code : BitVec 4
  req : Option BusReq
deriving DecidableEq, Repr

/-- One encoded word in one of the three forms; "a decoder knows the form from where it arrives" (R80). `evt c r` is the
label of a step, `busreq r` the address phase of a host access and `cmdw w` the data of a host write to CTRL; the last two
arrive inside an event (`Label.event`) and label no step by themselves. -/
inductive Label where
  | cmdw (w : Word)
  | busreq (r : BusReq)
  | evt (code : BitVec 4) (req : Option BusReq)
deriving DecidableEq, Repr

/-- The form a label is written in. -/
def Label.form : Label → Form
  | .cmdw _ => .cmdw
  | .busreq _ => .busreq
  | .evt _ _ => .evt

end Sys2Proof
end

