-- ==== Sys2Proof/Config.lean ====
section
/-! DEFINITION. What an implementation fixes: the parameters of 00_scope R6 with their constraints (92 D35), the frame
constants of R7, and the free values of the model (values the spec leaves open; opaque, no body). -/

namespace Sys2Proof

/-- NREQ (R7): the samples a decode needs, and the samples one decode consumes. -/
abbrev nreq : Nat := 40

/-- CK_BITS (R7). -/
abbrev ckBits : Nat := 8

/-- T_BITS (R7). -/
abbrev tBits : Nat := 16

/-- H_BITS (R7). -/
abbrev hBits : Nat := 16

/-- The size of the register window in bytes (R40, R60). -/
abbrev windowBytes : Nat := 0x200

/-- The parameters of R6 with the defaults shown there. BASE is OPEN in the spec; its default here is the model's
(DESIGN CHOICE, log 5), and no step reads it. -/
structure Params where
  /-- CAP: slots in the interval buffer. -/
  cap : Nat := 60
  /-- THRESH: a sample above it is a 1. 16 bits, which is its constraint in R6. -/
  thresh : Sample := 40
  /-- TICK_US: period of one tick in microseconds. -/
  tickUs : Nat := 1
  /-- TRIG_TICKS: ticks the block holds the line low. -/
  trigTicks : Nat := 10000
  /-- WIN_TICKS: ticks the window stays armed. -/
  winTicks : Nat := 2000000
  /-- SVC_PROMPT: a pending capture is serviced before any other event while armed. -/
  svcPrompt : Bool := true
  /-- BASE: host bus address of the window. -/
  base : Nat := 0
deriving DecidableEq, Repr

/-- The constraints of R6, which a model checks at construction (D35). -/
def Params.ok (p : Params) : Bool :=
  decide (40 ≤ p.cap ∧ p.cap ≤ 64 ∧ 0 < p.tickUs ∧ 1 ≤ p.trigTicks ∧ 10000 ≤ p.trigTicks * p.tickUs ∧
    1 ≤ p.winTicks ∧ p.winTicks ≤ 2 ^ 32 - 1 ∧ p.base % windowBytes = 0)

/-- FREE VALUE (log 9): what slot `slot` of BUF holds while nothing has written it, draw() of R28 and R200. `epoch`
is the model's count of completed steps other than register reads, so that two reads with no step between them agree
(R66) and nothing else is fixed. -/
opaque Config.freeSlot (epoch slot : Nat) : Sample

/-- FREE VALUE (log 11): PT + 1 when PT is already 2^32 - 1; the spec states no result there. -/
opaque Config.freeTimer (epoch : Nat) : BitVec 32

end Sys2Proof
end

