-- ==== Sys2Proof/Syntax.lean ====
section
/-! DEFINITION. The instructions of the block: one constructor per row of spec/opcode_table.json. The block has no
instruction set of its own (00_scope R1); its instructions are its commands (CMDW), its bus accesses (BUSREQ) and its
events (EVT). -/

namespace Sys2Proof

/-- The rows of opcode_table.json, in the table's order. -/
inductive Instr where
  /-- NOP (R133): a CTRL write with CMD = 0; `rsvd` is CMDW[31:4], ignored. -/
  | nop (rsvd : BitVec 28)
  /-- MEASURE (R131, R132): a CTRL write with CMD = 1. -/
  | measure (rsvd : BitVec 28)
  /-- CMD.reserved (R134): a CTRL write with CMD in 2..15. -/
  | cmdReserved (cmd : BitVec 4) (rsvd : BitVec 28)
  /-- RD.CTRL (R191). -/
  | rdCtrl
  /-- RD.STATUS (R192). -/
  | rdStatus
  /-- RD.HUM (R193). -/
  | rdHum
  /-- RD.TEMP (R194). -/
  | rdTemp
  /-- RD.IDX (R195). -/
  | rdIdx
  /-- RD.PREV (R196). -/
  | rdPrev
  /-- RD.CAPT (R197). -/
  | rdCapt
  /-- RD.CFG (R198). -/
  | rdCfg
  /-- RD.CNT (R199). -/
  | rdCnt
  /-- RD.BUF (R200): slot `i`, valid when i < CAP. -/
  | rdBuf (i : BitVec 6)
  /-- RD.reserved (R201): a reserved offset. -/
  | rdReserved (off : Offset)
  /-- WR.CTRL (R203): `data` is a CMDW. -/
  | wrCtrl (data : Word)
  /-- WR.ignored (R204): a write to any aligned offset but 0. -/
  | wrIgnored (off : Offset) (data : Word)
  /-- BUSERR (R214): an access of a size other than 4 or at a misaligned offset, read or write. -/
  | busErr (off : Offset) (size : Nat) (access : Access)
  /-- TICK (R102). -/
  | tick
  /-- SENSOR_LOW (R103). -/
  | sensorLow
  /-- SENSOR_RELEASE (R104). -/
  | sensorRelease
  /-- SERVICE (R105). -/
  | service
  /-- BUS_READ (R190) with its BUSREQ. -/
  | busRead (off : Offset) (size : Nat)
  /-- BUS_WRITE (R202) with its BUSREQ. -/
  | busWrite (off : Offset) (size : Nat) (data : Word)
  /-- EVT.reserved (R85, R87): codes 6..15 name no event. -/
  | evtReserved (code : BitVec 4)
deriving DecidableEq, Repr

/-- The "format" of the instruction's row. -/
def Instr.form : Instr → Form
  | .nop _ | .measure _ | .cmdReserved _ _ => .cmdw
  | .rdCtrl | .rdStatus | .rdHum | .rdTemp | .rdIdx | .rdPrev | .rdCapt | .rdCfg | .rdCnt
  | .rdBuf _ | .rdReserved _ | .wrCtrl _ | .wrIgnored _ _ | .busErr _ _ _ => .busreq
  | .tick | .sensorLow | .sensorRelease | .service | .busRead _ _ | .busWrite _ _ _ | .evtReserved _ => .evt

end Sys2Proof
end

