-- ==== Sys2Proof/WellFormed.lean ====
section
/-! DEFINITION. Which instruction terms the encoding tables admit, for a buffer of `cap` slots: the operand conditions
of opcode_table.json, written over the numbers of 10_state R40 and R51 rather than over the decoder's bit fields. -/

namespace Sys2Proof

/-- A 4-byte-aligned offset (R40, R62). -/
def Offset.isAligned (off : Offset) : Bool := off.toNat % 4 == 0

/-- The reserved offsets of R51: 0x024..0x0FC, and 0x100 + 4*i for CAP <= i < 64. -/
def Offset.isReserved (cap : Nat) (off : Offset) : Bool :=
  off.isAligned && (decide (0x24 ≤ off.toNat ∧ off.toNat ≤ 0xFC) || decide (0x100 + 4 * cap ≤ off.toNat ∧ 0x100 ≤ off.toNat))

/-- The operand conditions of the rows. -/
def Instr.wellFormed (cap : Nat) : Instr → Bool
  | .cmdReserved cmd _ => decide (2 ≤ cmd.toNat)
  | .rdBuf i => decide (i.toNat < cap)
  | .rdReserved off => off.isReserved cap
  | .wrIgnored off _ => off.isAligned && decide (off.toNat ≠ 0)
  | .busErr off size _ => decide (size ≠ 4) || !off.isAligned
  | .evtReserved code => decide (6 ≤ code.toNat)
  | .nop _ | .measure _ | .rdCtrl | .rdStatus | .rdHum | .rdTemp | .rdIdx | .rdPrev | .rdCapt | .rdCfg | .rdCnt
  | .wrCtrl _ | .tick | .sensorLow | .sensorRelease | .service | .busRead _ _ | .busWrite _ _ _ => true

end Sys2Proof
end

