-- ==== Sys2Proof/Decode.lean ====
section
/-! DEFINITION. The decoders of the three forms (30_encoding R81 to R87), total and rejecting by name, the encoder
written from the same tables, and the reading of opcode_table.json's words that the host asks for (log 2). -/

namespace Sys2Proof

/-- Why a label names no instruction. R85 gives BUS_READ a BUSREQ with DIR = 0, BUS_WRITE one with DIR = 1 and the
other events no operand; a label of another make is malformed (log 10). -/
inductive DecodeError where
  /-- BUS_READ or BUS_WRITE without its BUSREQ. -/
  | requestMissing
  /-- BUS_READ with DIR = 1 or BUS_WRITE with DIR = 0. -/
  | wrongDirection
  /-- An event without operands that carries a BUSREQ. -/
  | unexpectedRequest
deriving DecidableEq, Repr

/-! ## CMDW (R81, R82) -/

/-- CMD = CMDW[3:0] (R81, R86). -/
def cmdField (w : Word) : BitVec 4 := w.extractLsb' 0 4

/-- RSVD = CMDW[31:4], ignored (R81). -/
def rsvdField (w : Word) : BitVec 28 := w.extractLsb' 4 28

/-- A CMDW with the given fields. -/
def cmdWord (cmd : BitVec 4) (rsvd : BitVec 28) : Word := rsvd ++ cmd

/-- The command table R82. -/
def decodeCmdw (w : Word) : Instr :=
  if cmdField w = 0x0#4 then .nop (rsvdField w)
  else if cmdField w = 0x1#4 then .measure (rsvdField w)
  else .cmdReserved (cmdField w) (rsvdField w)

/-! ## BUSREQ (R83, R84) -/

/-- OFF[8]: the BUF half of the window (R84). -/
def offBank (off : Offset) : Bool := off.getLsbD 8

/-- OFF[7:2]: the register number, or the buffer index i (R84, R86). -/
def offIndex (off : Offset) : BitVec 6 := off.extractLsb' 2 6

/-- OFF[1:0] (R83). -/
def offLow (off : Offset) : BitVec 2 := off.extractLsb' 0 2

/-- Step 1 of the decode order R83: SIZE != 4 or OFF[1:0] != 0 is a bus error. -/
def accessIllegal (off : Offset) (size : Nat) : Bool := size != 4 || offLow off != 0

/-- Step 2 of R83 for a read: the offset table R84. -/
def decodeRead (cap : Nat) (off : Offset) : Instr :=
  if offBank off then
    if (offIndex off).toNat < cap then .rdBuf (offIndex off) else .rdReserved off
  else
    match (offIndex off).toNat with
    | 0x00 => .rdCtrl
    | 0x01 => .rdStatus
    | 0x02 => .rdHum
    | 0x03 => .rdTemp
    | 0x04 => .rdIdx
    | 0x05 => .rdPrev
    | 0x06 => .rdCapt
    | 0x07 => .rdCfg
    | 0x08 => .rdCnt
    | _ => .rdReserved off

/-- Step 2 of R83 for a write: CTRL, or ignored (R84). -/
def decodeWrite (off : Offset) (data : Word) : Instr :=
  if off = 0x000#9 then .wrCtrl data else .wrIgnored off data

/-- The decode order R83. -/
def decodeBusReq (cap : Nat) (r : BusReq) : Instr :=
  if accessIllegal r.off r.size then .busErr r.off r.size r.access
  else match r.access with
    | .read => decodeRead cap r.off
    | .write data => decodeWrite r.off data

/-! ## EVT (R85) -/

/-- An event without operands. -/
def decodePlain (i : Instr) : Option BusReq → Except DecodeError Instr
  | none => .ok i
  | some _ => .error .unexpectedRequest

/-- The operand of BUS_READ: a BUSREQ with DIR = 0. -/
def decodeReadEvent : Option BusReq → Except DecodeError Instr
  | none => .error .requestMissing
  | some ⟨off, size, .read⟩ => .ok (.busRead off size)
  | some ⟨_, _, .write _⟩ => .error .wrongDirection

/-- The operand of BUS_WRITE: a BUSREQ with DIR = 1. -/
def decodeWriteEvent : Option BusReq → Except DecodeError Instr
  | none => .error .requestMissing
  | some ⟨off, size, .write data⟩ => .ok (.busWrite off size data)
  | some ⟨_, _, .read⟩ => .error .wrongDirection

/-- The event table R85. -/
def decodeEvt (code : BitVec 4) (req : Option BusReq) : Except DecodeError Instr :=
  match code.toNat with
  | 0x0 => decodePlain .tick req
  | 0x1 => decodePlain .sensorLow req
  | 0x2 => decodePlain .sensorRelease req
  | 0x3 => decodePlain .service req
  | 0x4 => decodeReadEvent req
  | 0x5 => decodeWriteEvent req
  | _ => decodePlain (.evtReserved code) req

/-- The decoder of a step: the event table on the step's EVT code and operand. -/
def decodeEvent (e : Event) : Except DecodeError Instr := decodeEvt e.code e.req

/-- The EVT event of a host access (R85): BUS_READ for DIR = 0, BUS_WRITE for DIR = 1. -/
def BusReq.event (r : BusReq) : Event :=
  match r.access with
  | .read => ⟨0x4#4, some r⟩
  | .write _ => ⟨0x5#4, some r⟩

/-- The step in which an encoded word arrives (R80): a CMDW as the data of the 32-bit BUS_WRITE at 0x000, a BUSREQ as
the address phase of its host access, an EVT as the label itself. -/
def Label.event : Label → Event
  | .cmdw w => BusReq.event ⟨0x000#9, 4, .write w⟩
  | .busreq r => r.event
  | .evt code req => ⟨code, req⟩

/-- The decoder of a label, by its form (R80). `cap` is the parameter CAP, which R84 consults. -/
def decode (cap : Nat) : Label → Except DecodeError Instr
  | .cmdw w => .ok (decodeCmdw w)
  | .busreq r => .ok (decodeBusReq cap r)
  | .evt code req => decodeEvt code req

/-! ## The encoder -/

/-- A 32-bit read request. -/
def readReq (off : Offset) : Label := .busreq ⟨off, 4, .read⟩

/-- OFF of BUF[i]: 0x100 + 4*i (R40). -/
def bufOffset (i : BitVec 6) : Offset := 1#1 ++ i ++ 0#2

/-- The label of an instruction, from the tables R82, R84 and R85. -/
def encode : Instr → Label
  | .nop rsvd => .cmdw (cmdWord 0x0#4 rsvd)
  | .measure rsvd => .cmdw (cmdWord 0x1#4 rsvd)
  | .cmdReserved cmd rsvd => .cmdw (cmdWord cmd rsvd)
  | .rdCtrl => readReq 0x000#9
  | .rdStatus => readReq 0x004#9
  | .rdHum => readReq 0x008#9
  | .rdTemp => readReq 0x00C#9
  | .rdIdx => readReq 0x010#9
  | .rdPrev => readReq 0x014#9
  | .rdCapt => readReq 0x018#9
  | .rdCfg => readReq 0x01C#9
  | .rdCnt => readReq 0x020#9
  | .rdBuf i => readReq (bufOffset i)
  | .rdReserved off => readReq off
  | .wrCtrl data => .busreq ⟨0x000#9, 4, .write data⟩
  | .wrIgnored off data => .busreq ⟨off, 4, .write data⟩
  | .busErr off size access => .busreq ⟨off, size, access⟩
  | .tick => .evt 0x0#4 none
  | .sensorLow => .evt 0x1#4 none
  | .sensorRelease => .evt 0x2#4 none
  | .service => .evt 0x3#4 none
  | .busRead off size => .evt 0x4#4 (some ⟨off, size, .read⟩)
  | .busWrite off size data => .evt 0x5#4 (some ⟨off, size, .write data⟩)
  | .evtReserved code => .evt code none

/-! ## The words of opcode_table.json (log 2)
The table gives an EVT row bits 3:0, a BUSREQ row the 9 bits of OFF and a CMDW row a 32-bit word of which it fixes bits
3:0. The operands it gives no bits are supplied: a BUS_READ or BUS_WRITE label gets the request of a 32-bit access at
OFF 0 with DATA 0, and a BUSREQ word has SIZE 4 and DIR in bit 9 (0 = read). -/

/-- The request an EVT word of the table gets, which has no bits for it. -/
def tableOperand (code : Nat) : Option BusReq :=
  if code = 4 then some ⟨0#9, 4, .read⟩ else if code = 5 then some ⟨0#9, 4, .write 0#32⟩ else none

/-- The label that a table word of `nbits` bits stands for: up to 8 bits an EVT, up to 16 a BUSREQ, up to 32 a CMDW. -/
def tableLabel (nbits w : Nat) : Option Label :=
  if nbits ≤ 8 then
    if w < 16 then some (.evt (BitVec.ofNat 4 w) (tableOperand w)) else none
  else if nbits ≤ 16 then
    if w < 512 then some (.busreq ⟨BitVec.ofNat 9 w, 4, .read⟩)
    else if w < 1024 then some (.busreq ⟨BitVec.ofNat 9 w, 4, .write 0#32⟩)
    else none
  else if nbits ≤ 32 then
    if w < 2 ^ 32 then some (.cmdw (BitVec.ofNat 32 w)) else none
  else none

/-- The instruction the decoder reads from a table word, with the default CAP of R6. -/
def decodeTableWord (nbits w : Nat) : Option Instr :=
  match tableLabel nbits w with
  | none => none
  | some l =>
    match decode 60 l with
    | .ok i => some i
    | .error _ => none

end Sys2Proof
end

