-- ==== Sys2Proof/Machine/State.lean ====
section
/-! DEFINITION. The state of the block as plain data: every element of 10_state R20, the parameters of 00_scope R6 held
constant beside it (log 4), and the model's own fields (the schedule, the bus response, the epoch of the free values),
with the power-on state of 70_reset R240 and the reasons a step can stop. -/

namespace Sys2Proof.Machine

/-- PHASE (R30). -/
inductive Phase where
  /-- 0: after power-on, no cycle run yet. -/
  | idle
  /-- 1: the line is driven low. -/
  | trig
  /-- 2: armed, capturing. -/
  | window
  /-- 3: a cycle has ended and its results are readable. -/
  | done
deriving DecidableEq, Repr

/-- POL (R24). -/
inductive Polarity where
  /-- 0: capture on the next falling edge of WIRE. -/
  | fall
  /-- 1: capture on the next rising edge of WIRE. -/
  | rise
deriving DecidableEq, Repr

/-- LAST_CAUSE (R38): ghost state, no bus access reads it. -/
inductive Cause where
  /-- NONE: reset, or a cycle in progress. -/
  | none
  /-- OK: the last decode matched. -/
  | ok
  /-- TRUNC: fewer than 40 samples. -/
  | trunc
  /-- CKSUM: checksum mismatch. -/
  | cksum
deriving DecidableEq, Repr

/-- BUF (R28): the written slots as (slot, sample) pairs, slots strictly rising; an unlisted slot was never written
(log 14). -/
abbrev Buffer := List (Nat × Sample)

/-- The state elements of R20. -/
structure Block where
  /-- CNT (R21): the free-running counter. -/
  cnt : Sample
  /-- CAPT (R22): the capture register. -/
  capt : Sample
  /-- PEND (R23): the capture-pending flag. -/
  pend : Bool
  /-- POL (R24): the capture polarity. -/
  pol : Polarity
  /-- ARMED (R25): the capture-interrupt enable. -/
  armed : Bool
  /-- PREV (R26): the previous-edge timestamp. -/
  prev : Sample
  /-- IDX (R27): the buffer write index. -/
  idx : BitVec 7
  /-- BUF (R28): the interval buffer. -/
  buf : Buffer
  /-- OVF (R29): the buffer-overflow flag. -/
  ovf : Bool
  /-- PHASE (R30): the sequencer state. -/
  phase : Phase
  /-- PT (R31): the phase timer. -/
  pt : BitVec 32
  /-- DRIVE (R32): the block pulls the line low. -/
  drive : Bool
  /-- SENSOR_OUT (R33): the sensor's own driver, an input; false pulls the line low. -/
  sensorOut : Bool
  /-- HUM (R35): the humidity result. -/
  hum : Sample
  /-- TEMP (R36): the temperature result. -/
  temp : Sample
  /-- VALID (R37): the result-valid flag. -/
  valid : Bool
  /-- LAST_CAUSE (R38). -/
  lastCause : Cause
deriving DecidableEq, Repr

/-- What the host got back from its latest access (R190, R214; the model's own field, log 7). -/
inductive Response where
  /-- No access yet. -/
  | none
  /-- The data of a read. -/
  | data (v : Word)
  /-- A write was taken; it returns no data. -/
  | written
  /-- The error response of raise BusError(off). -/
  | busError (off : Offset)
deriving DecidableEq, Repr

/-- The machine: the block, its parameters, and the model's own fields. -/
structure State where
  /-- The parameters of R6; no step writes them. -/
  params : Params
  /-- The state elements of R20. -/
  block : Block
  /-- The events still to run, first one next: the schedule of all agents (R89, R11; log 1). Each step carries exactly
  one EVT event (R85). -/
  trace : List Event
  /-- The response to the latest host access (log 7). -/
  resp : Response
  /-- How many completed steps other than register reads have run; it only indexes the free values (log 9). -/
  epoch : Nat
deriving DecidableEq, Repr

/-- Why the machine stops with a fault. -/
inductive Fault where
  /-- `step`, when the schedule holds no further event: no agent has a step to take (log 1). Safe: the hardware goes
  on counting ticks, the model says nothing about them. -/
  | noEvent
deriving DecidableEq, Repr

/-- Why a step is refused. -/
inductive Refusal where
  /-- An arm of `exec` whose instruction has no meaning yet; no arm is left so. Safe. -/
  | notModelled (mnemonic : String)
  /-- Every meaning but SERVICE, while a service is owed: "no other event is enabled" (R106, 93 S13). Safe. -/
  | serviceOwed
  /-- SERVICE, where ARMED = 1 and PEND = 1 do not both hold: it is not enabled (R106, R89). Safe. -/
  | serviceNotEnabled
  /-- EVT.reserved: codes 6..15 name no event, "the model refuses the label" (R85, R87, 93 S8). Safe. -/
  | reservedEvent (code : BitVec 4)
  /-- `step`, for an event whose operand is not the one R85 gives its event (log 10). Safe. -/
  | malformedLabel (e : DecodeError)
  /-- `State.construct`, for a parameter set outside R6 (D35, 93 S9). Safe. -/
  | parametersOutOfRange
deriving DecidableEq, Repr

/-- The power-on reset values of R20 to R38 (R240). SENSOR_OUT is an input and is given. -/
def Block.powerOn (sensorOut : Bool) : Block :=
  { cnt := 0, capt := 0, pend := false, pol := .fall, armed := false, prev := 0, idx := 0, buf := [], ovf := false,
    phase := .idle, pt := 0, drive := false, sensorOut := sensorOut, hum := 0, temp := 0, valid := false,
    lastCause := .none }

/-- The machine after power-on with parameters `p` and the launch input `sensorOut` (R240), nothing scheduled. -/
def State.powerOn (p : Params) (sensorOut : Bool) : State :=
  { params := p, block := .powerOn sensorOut, trace := [], resp := .none, epoch := 0 }

/-- The machine right after reset: the default parameters of R6 and the usual launch premise SENSOR_OUT = 1 (R33,
log 6). -/
def State.reset : State := .powerOn {} true

end Sys2Proof.Machine
end

