-- ==== Sys2Proof/Machine/Ops.lean ====
section
/-! DEFINITION. The named operations over the state: the interval buffer (R28), the line and the capture latch (R34,
R100, R101), taking the capture interrupt (R217, R220), the ways a step completes, and power-on reset (R240). -/

namespace Sys2Proof.Machine

/-! ## The interval buffer (R28) -/

/-- The sample of a slot; none where the slot was never written. -/
def Buffer.read : Buffer → Nat → Option Sample
  | [], _ => none
  | (j, v) :: rest, i => if i = j then some v else Buffer.read rest i

/-- BUF[i] <- v, keeping the slots strictly rising. -/
def Buffer.write : Buffer → Nat → Sample → Buffer
  | [], i, v => [(i, v)]
  | (j, w) :: rest, i, v =>
    if i < j then (i, v) :: (j, w) :: rest
    else if i = j then (i, v) :: rest
    else (j, w) :: Buffer.write rest i v

/-- Every slot is at least `lo`, below `cap`, and above the one before it. -/
def Buffer.wfFrom (cap : Nat) : Nat → Buffer → Bool
  | _, [] => true
  | lo, (j, _) :: rest => decide (lo ≤ j ∧ j < cap) && Buffer.wfFrom cap (j + 1) rest

/-- The canonical form: slots strictly rising, all below `cap`. -/
def Buffer.wf (cap : Nat) (b : Buffer) : Bool := Buffer.wfFrom cap 0 b

/-- What slot i reads as when a never-written slot holds `free i` (R200). -/
def Block.slotValue (free : Nat → Sample) (b : Block) (i : Nat) : Sample := (b.buf.read i).getD (free i)

/-! ## The line and the capture latch -/

/-- WIRE = SENSOR_OUT AND (NOT DRIVE) (R34). -/
def Block.wire (b : Block) : Bool := b.sensorOut && !b.drive

/-- Capture() (R101): CAPT <- CNT, PEND <- 1, in every phase. -/
def Block.capture (b : Block) : Block := { b with capt := b.cnt, pend := true }

/-- Whether a change of WIRE to `level` is the edge that POL selects (R24, R100). -/
def Polarity.selects (pol : Polarity) (level : Bool) : Bool :=
  match pol, level with
  | .fall, false => true
  | .rise, true => true
  | .fall, true => false
  | .rise, false => false

/-- WireUpdate(old) (R100): an edge is a change of WIRE, and it is captured when its direction matches POL. -/
def Block.wireUpdate (old : Bool) (b : Block) : Block :=
  if b.wire != old && b.pol.selects b.wire then b.capture else b

/-! ## The capture interrupt (R217 to R221) -/

/-- SERVICE is enabled exactly when ARMED = 1 and PEND = 1 (R106). -/
def Block.serviceEnabled (b : Block) : Bool := b.armed && b.pend

/-- Taking the capture interrupt: "its only entry action is PEND <- 0" (R220). It saves no state and has no vector, and
the return is the end of the same step (R221). -/
def Block.interruptEntry (b : Block) : Block := { b with pend := false }

/-- A service is owed: SVC_PROMPT and SERVICE enabled; no other event is enabled then (R106). -/
def State.serviceOwed (s : State) : Bool := s.params.svcPrompt && s.block.serviceEnabled

/-! ## How a step ends -/

/-- The outcome of one instruction. -/
abbrev Result := Host.Outcome State Fault Refusal

/-- Any event but SERVICE is enabled exactly when no service is owed (R102 to R104, R106, R190, R202). -/
def unlessOwed (s : State) (next : State) : Result :=
  if s.serviceOwed then .refused .serviceOwed else .next next

/-- A step that is not a host access ends with the block `b`. -/
def State.complete (s : State) (b : Block) : State := { s with block := b, epoch := s.epoch + 1 }

/-- A host write ends with the block `b`; it returns no data (R202). -/
def State.finishWrite (s : State) (b : Block) : State :=
  { s with block := b, resp := .written, epoch := s.epoch + 1 }

/-- A host read returns `v` and changes nothing (R66, R190). -/
def State.finishRead (s : State) (v : Word) : State := { s with resp := .data v }

/-- raise BusError(off): an error response, and no state of the block changes (R10, R214). -/
def State.raiseBusError (s : State) (off : Offset) : State :=
  { s with resp := .busError off, epoch := s.epoch + 1 }

/-! ## Free values (log 9, log 11) -/

/-- What a never-written slot reads as now: draw() of R200. -/
def State.freeSlots (s : State) : Nat → Sample := Config.freeSlot s.epoch

/-- PT + 1 where PT cannot hold it. -/
def State.freeTimer (s : State) : BitVec 32 := Config.freeTimer s.epoch

/-! ## Reset and construction -/

/-- The reset input (R240): every state element to its reset value; SENSOR_OUT is the sensor's and stays (log 17). -/
def State.assertReset (s : State) : State := s.complete (.powerOn s.block.sensorOut)

/-- Building a machine: a parameter set outside R6 is refused (D35, 93 S9). -/
def State.construct (p : Params) (sensorOut : Bool) : Result :=
  if p.ok then .next (.powerOn p sensorOut) else .refused .parametersOutOfRange

end Sys2Proof.Machine
end

