-- ==== Sys2Proof/Machine/Operands.lean ====
section
/-! DEFINITION. The operand forms of a host access: bus addresses and the window (20_memory R60, R61), byte lanes (R63),
and the zero-extension of a field to a 32-bit register (R9, R40). -/

namespace Sys2Proof.Machine

/-- zext_32 (R9). -/
def zext32 {n : Nat} (v : BitVec n) : Word := v.setWidth 32

/-- A one-bit field: 1 or 0. -/
def bit (b : Bool) : BitVec 1 := BitVec.ofBool b

/-- off = address - BASE for an address of the window; none outside it, where the block does not respond (R61). -/
def windowOffset (p : Params) (addr : Nat) : Option Offset :=
  if p.base ≤ addr ∧ addr < p.base + windowBytes then some (BitVec.ofNat 9 (addr - p.base)) else none

/-- The event of a host access at a bus address: MemRead and MemWrite of R10, of any size. None outside the window. -/
def hostEvent (p : Params) (addr size : Nat) (access : Access) : Option Event :=
  match windowOffset p addr, access with
  | none, _ => none
  | some off, .read => some (BusReq.event ⟨off, size, .read⟩)
  | some off, .write data => some (BusReq.event ⟨off, size, .write data⟩)

/-- Byte k of a register, which sits at BASE + off + k and holds bits [8k+7:8k] (R63). -/
def byteLane (v : Word) (k : Nat) : BitVec 8 := v.extractLsb' (8 * k) 8

end Sys2Proof.Machine
end

