-- ==== Sys2Proof/Machine/Flags.lean ====
section
/-! DEFINITION. The flags as the host sees them: the fields of STATUS (10_state R42, 43_bus_access R192) and of CFG
(R48, R198). Every field of STATUS is a live view of state. -/

namespace Sys2Proof.Machine

/-- The 2-bit encoding of PHASE (R30). -/
def Phase.code : Phase → BitVec 2
  | .idle => 0
  | .trig => 1
  | .window => 2
  | .done => 3

/-- The 1-bit encoding of POL (R24). -/
def Polarity.code : Polarity → BitVec 1
  | .fall => 0
  | .rise => 1

/-- BUSY: PHASE = TRIG or PHASE = WINDOW (R42). -/
def Block.busy (b : Block) : Bool := b.phase == .trig || b.phase == .window

/-- DONE: PHASE = DONE (R42). -/
def Block.isDone (b : Block) : Bool := b.phase == .done

/-- The eleven defined bits of STATUS, most significant first (R192). -/
def Block.statusFields (b : Block) : BitVec 11 :=
  bit b.wire ++ bit b.drive ++ bit b.pend ++ b.pol.code ++ bit b.armed ++ bit b.ovf ++ bit b.valid ++
    bit b.isDone ++ bit b.busy ++ b.phase.code

/-- STATUS (R42, R192). -/
def Block.status (b : Block) : Word := zext32 b.statusFields

/-- CFG = {THRESH[15:0], 0x00, CAP[7:0]} (R48, R198). -/
def cfgWord (p : Params) : Word := p.thresh ++ 0x00#8 ++ BitVec.ofNat 8 p.cap

end Sys2Proof.Machine
end

