-- ==== Sys2Proof/Machine/Decoder.lean ====
section
/-! DEFINITION. The decoder and checksum validator (42_decoder_checksum R160 to R170): admission, bit extraction, the
checksum and the three results. It runs only inside WindowExpire (R138). -/

namespace Sys2Proof.Machine

/-- Admit(n) (R161). -/
def admits (n : Nat) : Bool := decide (nreq ≤ n)

/-- Bit(s) (R162): an unsigned comparison with THRESH. -/
def sampleBit (p : Params) (s : Sample) : Bool := decide (p.thresh.toNat < s.toNat)

/-- The sum over k < w of bit k times 2^k: the loop of Field (R163). -/
def fieldSum (bits : Nat → Bool) : Nat → Nat
  | 0 => 0
  | w + 1 => fieldSum bits w + (bits w).toNat * 2 ^ w

/-- Field(n, off, w) (R163): pop k reads sample n - 1 - off - k and gives bit k. `slot` reads BUF. -/
def field (p : Params) (slot : Nat → Sample) (n off w : Nat) : BitVec w :=
  BitVec.ofNat w (fieldSum (fun k => sampleBit p (slot (n - 1 - off - k))) w)

/-- Sum8(h, t) (R167). -/
def sum8 (h t : Sample) : BitVec 8 :=
  h.extractLsb' 0 8 + h.extractLsb' 8 8 + t.extractLsb' 0 8 + t.extractLsb' 8 8

/-- ValidResult(h, t) (R168). -/
def Block.validResult (h t : Sample) (b : Block) : Block :=
  { b with valid := true, hum := h, temp := t, lastCause := .ok }

/-- MismatchResult() (R169). -/
def Block.mismatchResult (b : Block) : Block :=
  { b with valid := false, hum := 0, temp := 0, lastCause := .cksum }

/-- TruncatedResult() (R170): IDX is unchanged and no slot is read. -/
def Block.truncatedResult (b : Block) : Block :=
  { b with valid := false, hum := 0, temp := 0, lastCause := .trunc }

/-- The checksum field of a decode at index n (R163). -/
def frameChecksum (p : Params) (slot : Nat → Sample) (n : Nat) : BitVec 8 := field p slot n 0 ckBits

/-- The temperature field (R164). -/
def frameTemp (p : Params) (slot : Nat → Sample) (n : Nat) : Sample := field p slot n 8 tBits

/-- The humidity field (R165). -/
def frameHum (p : Params) (slot : Nat → Sample) (n : Nat) : Sample := field p slot n 24 hBits

/-- Decode() (R160); `free` gives what never-written slots hold. -/
def Block.decodeFrame (p : Params) (free : Nat → Sample) (b : Block) : Block :=
  let n := b.idx.toNat
  let slot := b.slotValue free
  if admits n then
    let ck := frameChecksum p slot n
    let t := frameTemp p slot n
    let h := frameHum p slot n
    let c := { b with idx := b.idx - 40 }
    if sum8 h t = ck then c.validResult h t else c.mismatchResult
  else b.truncatedResult

end Sys2Proof.Machine
end

