-- ==== Sys2Proof/Machine/Sequencer.lean ====
section
/-! DEFINITION. The acquisition sequencer (41_sequencer R130 to R138): the commands of CTRL and the phase changes inside
TICK, with the meanings of the CMDW rows. A CMDW arrives as the data of a host write to CTRL (R80). -/

namespace Sys2Proof.Machine

/-! ## Commands -/

/-- Step 1 of an accepted MEASURE: the cycle reset, and the entry to TRIG (R131). -/
def Block.cycleReset (b : Block) : Block :=
  { b with idx := 0, pend := false, pol := .fall, prev := 0, ovf := false, valid := false, hum := 0, temp := 0,
           lastCause := .none, pt := 0, phase := .trig }

/-- DRIVE <- v with the edge detector at its end (R100, R131, R136). -/
def Block.setDrive (v : Bool) (b : Block) : Block := { b with drive := v }.wireUpdate b.wire

/-- MEASURE, accepted (R131): the reset comes before the drive (R219d). -/
def Block.acceptMeasure (b : Block) : Block := b.cycleReset.setDrive true

/-- MEASURE (R131, R132): accepted in IDLE and DONE, ignored while busy. -/
def Block.measure (b : Block) : Block := if b.busy then b else b.acceptMeasure

/-- Command(CMD) (R203, R131 to R134): only CMD = 1 has an effect. -/
def Block.command (cmd : BitVec 4) (b : Block) : Block := if cmd = 0x1#4 then b.measure else b

/-! ## The phase timer -/

/-- PT + 1 (R31, R135, R137); `free` is the value where 32 bits cannot hold it (log 11). -/
def timerSucc (free pt : BitVec 32) : BitVec 32 := if pt.toNat = 2 ^ 32 - 1 then free else pt + 1

/-- TrigExpire() (R136): release, arm, WINDOW, PT <- 0; the release may make a rising edge. -/
def Block.trigExpire (b : Block) : Block :=
  { b with armed := true, phase := .window, pt := 0 }.setDrive false

/-- TrigTick() (R135). -/
def Block.trigTick (p : Params) (freePt : BitVec 32) (b : Block) : Block :=
  let c := { b with pt := timerSucc freePt b.pt }
  if c.pt.toNat = p.trigTicks then c.trigExpire else c

/-- WindowExpire() (R138): disarm, decode, DONE, PT <- 0. -/
def Block.windowExpire (p : Params) (free : Nat → Sample) (b : Block) : Block :=
  { { b with armed := false }.decodeFrame p free with phase := .done, pt := 0 }

/-- WindowTick() (R137). -/
def Block.windowTick (p : Params) (free : Nat → Sample) (freePt : BitVec 32) (b : Block) : Block :=
  let c := { b with pt := timerSucc freePt b.pt }
  if c.pt.toNat = p.winTicks then c.windowExpire p free else c

/-- What one tick does by phase (R102): TrigTick in TRIG, WindowTick in WINDOW. The phase is the one before the tick:
the tick that expires the trigger leaves PT = 0 (DEDUCED from R136 and R142, log 12). -/
def Block.phaseTick (p : Params) (free : Nat → Sample) (freePt : BitVec 32) (b : Block) : Block :=
  match b.phase with
  | .idle => b
  | .trig => b.trigTick p freePt
  | .window => b.windowTick p free freePt
  | .done => b

/-! ## Meanings of the CMDW rows -/

/-- A host write of CMDW to CTRL, whose CMD is `cmd` (R203). -/
def execCommand (cmd : BitVec 4) (s : State) : Result := unlessOwed s (s.finishWrite (s.block.command cmd))

/-- NOP (R133). -/
def execNop (_rsvd : BitVec 28) (s : State) : Result := execCommand 0x0#4 s

/-- MEASURE (R131, R132); CMDW[31:4] is ignored (R81). -/
def execMeasure (_rsvd : BitVec 28) (s : State) : Result := execCommand 0x1#4 s

/-- CMD.reserved (R134): no effect, and no error is raised. -/
def execCmdReserved (_cmd : BitVec 4) (_rsvd : BitVec 28) (s : State) : Result :=
  unlessOwed s (s.finishWrite s.block)

end Sys2Proof.Machine
end

