-- ==== Sys2Proof/Machine/Recorder.lean ====
section
/-! DEFINITION. The edge timestamp recorder (40_capture_recorder R100 to R111): the counter, the sensor's changes of the
line, and the service step, with the meanings of the EVT rows that are not host accesses. -/

namespace Sys2Proof.Machine

/-- TICK (R102, R219c): CNT first, then the phase timer and any phase change. -/
def Block.tick (p : Params) (free : Nat → Sample) (freePt : BitVec 32) (b : Block) : Block :=
  { b with cnt := b.cnt + 1 }.phaseTick p free freePt

/-- SENSOR_LOW and SENSOR_RELEASE: SENSOR_OUT <- v with the edge detector at its end (R103, R104). -/
def Block.setSensor (v : Bool) (b : Block) : Block := { b with sensorOut := v }.wireUpdate b.wire

/-- The interval of a service (R107): (ts - PREV) mod 2^16. -/
def interval (ts prev : Sample) : Sample := ts - prev

/-- A sample goes to slot IDX below CAP; at CAP it is dropped and OVF is set (R105, R108). -/
def Block.record (p : Params) (v : Sample) (b : Block) : Block :=
  if b.idx.toNat < p.cap then { b with buf := b.buf.write b.idx.toNat v, idx := b.idx + 1 }
  else { b with ovf := true }

/-- The body of SERVICE after the interrupt is taken (R105): POL from the line level, a sample on the low branch, and
PREV <- ts "regardless of branch". -/
def Block.serviceBody (p : Params) (ts : Sample) (b : Block) : Block :=
  if b.wire then { b with pol := .fall, prev := ts }
  else { { b with pol := .rise }.record p (interval ts b.prev) with prev := ts }

/-- SERVICE (R105): the timestamp is CAPT (D32), the pending flag is taken, then the body. -/
def Block.service (p : Params) (b : Block) : Block := b.interruptEntry.serviceBody p b.capt

/-- Recorder(pol, ts, prev, level, idx) of R109: the new polarity, the new PREV and the sample, if any. -/
def recorder (_pol : Polarity) (ts prev : Sample) (level : Bool) (_idx : BitVec 7) :
    Polarity × Sample × Option Sample :=
  (if level then .fall else .rise, ts, if level then none else some (interval ts prev))

/-! ## Meanings -/

/-- TICK (R102). -/
def execTick (s : State) : Result :=
  unlessOwed s (s.complete (s.block.tick s.params s.freeSlots s.freeTimer))

/-- SENSOR_LOW (R103): the sensor starts pulling the line low. -/
def execSensorLow (s : State) : Result := unlessOwed s (s.complete (s.block.setSensor false))

/-- SENSOR_RELEASE (R104): the sensor stops pulling the line low. -/
def execSensorRelease (s : State) : Result := unlessOwed s (s.complete (s.block.setSensor true))

/-- SERVICE (R105), enabled only when ARMED = 1 and PEND = 1 (R106). -/
def execService (s : State) : Result :=
  if s.block.serviceEnabled then .next (s.complete (s.block.service s.params)) else .refused .serviceNotEnabled

/-- EVT.reserved (R85, R87, 93 S8): no such event; the label is refused. -/
def execEvtReserved (code : BitVec 4) (_s : State) : Result := .refused (.reservedEvent code)

end Sys2Proof.Machine
end

