-- ==== Sys2Proof/Machine/Bus.lean ====
section
/-! DEFINITION. The host's accesses to the window (43_bus_access R190 to R204, 60_exceptions R214): the register words,
the meanings of the BUSREQ rows, and of the events BUS_READ and BUS_WRITE. -/

namespace Sys2Proof.Machine

/-! ## Register words -/

/-- RD.BUF (R200): a written slot, or draw()[15:0] where the slot was never written; at CAP and above the offset is
reserved and reads 0 (R201). -/
def bufWord (p : Params) (free : Nat → Sample) (b : Block) (i : BitVec 6) : Word :=
  if i.toNat < p.cap then zext32 (b.slotValue free i.toNat) else 0#32

/-- The registers below 0x100 by number OFF[7:2] (R84, R191 to R199, R201). -/
def registerWord (p : Params) (b : Block) (n : BitVec 6) : Word :=
  match n.toNat with
  | 0x01 => b.status
  | 0x02 => zext32 b.hum
  | 0x03 => zext32 b.temp
  | 0x04 => zext32 b.idx
  | 0x05 => zext32 b.prev
  | 0x06 => zext32 b.capt
  | 0x07 => cfgWord p
  | 0x08 => zext32 b.cnt
  | _ => 0#32

/-- ReadReg(off) (R190, by R84). -/
def readReg (p : Params) (free : Nat → Sample) (b : Block) (off : Offset) : Word :=
  if offBank off then bufWord p free b (offIndex off) else registerWord p b (offIndex off)

/-! ## The two accesses -/

/-- A legal read that returns `v` (R190). -/
def hostRead (s : State) (v : Word) : Result := unlessOwed s (s.finishRead v)

/-- A legal write that leaves the block as `b` (R202). -/
def hostWrite (s : State) (b : Block) : Result := unlessOwed s (s.finishWrite b)

/-- An access that ends with raise BusError(off) (R214). -/
def busFault (s : State) (off : Offset) : Result := unlessOwed s (s.raiseBusError off)

/-! ## Meanings of the BUSREQ rows -/

/-- RD.CTRL (R191): CTRL holds no state and reads 0. -/
def execRdCtrl (s : State) : Result := hostRead s 0#32

/-- RD.STATUS (R192). -/
def execRdStatus (s : State) : Result := hostRead s s.block.status

/-- RD.HUM (R193). -/
def execRdHum (s : State) : Result := hostRead s (zext32 s.block.hum)

/-- RD.TEMP (R194). -/
def execRdTemp (s : State) : Result := hostRead s (zext32 s.block.temp)

/-- RD.IDX (R195). -/
def execRdIdx (s : State) : Result := hostRead s (zext32 s.block.idx)

/-- RD.PREV (R196). -/
def execRdPrev (s : State) : Result := hostRead s (zext32 s.block.prev)

/-- RD.CAPT (R197): it does not clear PEND. -/
def execRdCapt (s : State) : Result := hostRead s (zext32 s.block.capt)

/-- RD.CFG (R198). -/
def execRdCfg (s : State) : Result := hostRead s (cfgWord s.params)

/-- RD.CNT (R199). -/
def execRdCnt (s : State) : Result := hostRead s (zext32 s.block.cnt)

/-- RD.BUF (R200). -/
def execRdBuf (i : BitVec 6) (s : State) : Result := hostRead s (bufWord s.params s.freeSlots s.block i)

/-- RD.reserved (R201). -/
def execRdReserved (_off : Offset) (s : State) : Result := hostRead s 0#32

/-- WR.CTRL (R203): dispatch on CMD = data[3:0]. -/
def execWrCtrl (data : Word) (s : State) : Result := hostWrite s (s.block.command (cmdField data))

/-- WR.ignored (R204): no state changes and no error is raised. -/
def execWrIgnored (_off : Offset) (_data : Word) (s : State) : Result := hostWrite s s.block

/-- BUSERR (R214): the host gets an error response and the block changes no state. -/
def execBusErr (off : Offset) (_size : Nat) (_access : Access) (s : State) : Result := busFault s off

/-! ## Meanings of BUS_READ and BUS_WRITE -/

/-- BUS_READ(off, size) (R190). -/
def execBusRead (off : Offset) (size : Nat) (s : State) : Result :=
  if accessIllegal off size then busFault s off
  else hostRead s (readReg s.params s.freeSlots s.block off)

/-- BUS_WRITE(off, size, data) (R202). -/
def execBusWrite (off : Offset) (size : Nat) (data : Word) (s : State) : Result :=
  if accessIllegal off size then busFault s off
  else if off = 0x000#9 then hostWrite s (s.block.command (cmdField data))
  else hostWrite s s.block

/-! ## The caller-facing operation (R143) -/

/-- What measure(out h, out t) returns from the STATUS, HUM and TEMP words it read after DONE: (failure, h, t), where
failure is s[4] = 0. -/
def measureReturn (status hum temp : Word) : Bool × Sample × Sample :=
  (!status.getLsbD 4, hum.extractLsb' 0 16, temp.extractLsb' 0 16)

end Sys2Proof.Machine
end

