-- ==== Sys2Proof/Machine/Dispatch.lean ====
section
/-! DEFINITION. The meaning of an instruction: one arm per constructor of Instr, one direct call each. -/

namespace Sys2Proof.Machine

def exec (i : Instr) (s : State) : Host.Outcome State Fault Refusal :=
  match i with
  | .nop rsvd => Sys2Proof.Machine.execNop rsvd s
  | .measure rsvd => Sys2Proof.Machine.execMeasure rsvd s
  | .cmdReserved cmd rsvd => Sys2Proof.Machine.execCmdReserved cmd rsvd s
  | .rdCtrl => Sys2Proof.Machine.execRdCtrl s
  | .rdStatus => Sys2Proof.Machine.execRdStatus s
  | .rdHum => Sys2Proof.Machine.execRdHum s
  | .rdTemp => Sys2Proof.Machine.execRdTemp s
  | .rdIdx => Sys2Proof.Machine.execRdIdx s
  | .rdPrev => Sys2Proof.Machine.execRdPrev s
  | .rdCapt => Sys2Proof.Machine.execRdCapt s
  | .rdCfg => Sys2Proof.Machine.execRdCfg s
  | .rdCnt => Sys2Proof.Machine.execRdCnt s
  | .rdBuf slot => Sys2Proof.Machine.execRdBuf slot s
  | .rdReserved off => Sys2Proof.Machine.execRdReserved off s
  | .wrCtrl data => Sys2Proof.Machine.execWrCtrl data s
  | .wrIgnored off data => Sys2Proof.Machine.execWrIgnored off data s
  | .busErr off size access => Sys2Proof.Machine.execBusErr off size access s
  | .tick => Sys2Proof.Machine.execTick s
  | .sensorLow => Sys2Proof.Machine.execSensorLow s
  | .sensorRelease => Sys2Proof.Machine.execSensorRelease s
  | .service => Sys2Proof.Machine.execService s
  | .busRead off size => Sys2Proof.Machine.execBusRead off size s
  | .busWrite off size data => Sys2Proof.Machine.execBusWrite off size data s
  | .evtReserved code => Sys2Proof.Machine.execEvtReserved code s

end Sys2Proof.Machine
end

