-- ==== Sys2Proof/Machine/Events.lean ====
section
/-! DEFINITION. Running events: one event is one step (00_scope R11), labelled by its EVT code (30_encoding R85). -/

namespace Sys2Proof.Machine

/-- Decode an event and run the instruction it names; an event of another make than R85's is refused (log 10). -/
def runEvent (ev : Event) (s : State) : Result :=
  match decodeEvent ev with
  | .error e => .refused (.malformedLabel e)
  | .ok i => exec i s

/-- Running events one after another, stopping at the first fault or refusal. -/
def runEvents : List Event → State → Result
  | [], s => .next s
  | ev :: rest, s =>
    match runEvent ev s with
    | .next t => runEvents rest t
    | .fault f => .fault f
    | .refused r => .refused r

end Sys2Proof.Machine
end

