-- ==== Sys2Proof/Machine/Fetch.lean ====
section
/-! DEFINITION. Fetching: the next event of the schedule and the instruction it names (30_encoding R85, R89; 00_scope
R11). -/

namespace Sys2Proof.Machine

/-- The next event of the schedule, and the state with that event taken off it. -/
def State.fetch (s : State) : Option (Event × State) :=
  match s.trace with
  | [] => none
  | e :: rest => some (e, { s with trace := rest })

/-- `s` with an event scheduled as the very next step. -/
def State.schedule (s : State) (e : Event) : State := { s with trace := e :: s.trace }

/-- `s` with the step in which a table word arrives scheduled as the very next one; where the word is of no form, `s`
as it is. -/
def State.scheduleTableWord (s : State) (nbits w : Nat) : State :=
  match tableLabel nbits w with
  | some l => s.schedule l.event
  | none => s

end Sys2Proof.Machine
end

