-- ==== Sys2Proof/Machine/Step.lean ====
section
/-! DEFINITION. One step of the machine: one event (00_scope R11), the next one of the schedule. -/

namespace Sys2Proof.Machine

/-- Take the next event off the schedule and run it. A schedule that is used up is the fault noEvent (log 1); an
event of another make than R85's is refused (log 10). -/
def step (s : State) : Host.Outcome State Fault Refusal :=
  match s.fetch with
  | none => .fault .noEvent
  | some (ev, rest) => runEvent ev rest

/-- `s` with the event in which the table word arrives as the very next step (log 2): the word itself for an EVT, the
host access that carries it for a BUSREQ or a CMDW (R80). -/
def State.withFetchWord (s : State) (nbits w : Nat) : State := s.scheduleTableWord nbits w

end Sys2Proof.Machine
end

