-- ==== Sys2Proof/Machine/Trace.lean ====
section
/-! DEFINITION. Programs of the block: event traces (30_encoding R89) and the pseudo-instructions that expand to a fixed
list of events (R90). WAITDONE is a loop of the host, not a list: see
Machine/HostCall.lean. -/

namespace Sys2Proof.Machine

/-- "R." size off: BUS_READ of any size (R89). -/
def readEvent (off : Offset) (size : Nat) : Event := BusReq.event ⟨off, size, .read⟩

/-- "W." size off "," data: BUS_WRITE of any size (R89). -/
def writeEvent (off : Offset) (size : Nat) (data : Word) : Event := BusReq.event ⟨off, size, .write data⟩

/-- event "*" count: the event repeated count times (R89). -/
def repeated (e : Event) (count : Nat) : List Event := List.replicate count e

/-- TICK*n (R90). -/
def ticks (n : Nat) : List Event := repeated ⟨0x0#4, none⟩ n

/-- MEASURE = W 0x000, 0x00000001 (R90). -/
def measureLine : List Event := [writeEvent 0x000#9 4 0x00000001#32]

/-- NOP = W 0x000, 0x00000000 (R90). -/
def nopLine : List Event := [writeEvent 0x000#9 4 0x00000000#32]

/-- PULSE lo, hi (R90). -/
def pulse (lo hi : Nat) : List Event :=
  [⟨0x1#4, none⟩, ⟨0x3#4, none⟩] ++ ticks lo ++ [⟨0x2#4, none⟩, ⟨0x3#4, none⟩] ++ ticks hi

end Sys2Proof.Machine
end

