-- ==== Sys2Proof/Machine/HostCall.lean ====
section
/-! DEFINITION. The host's sequences on the block: WAITDONE (30_encoding R90) and the
caller-facing measure(out h, out t) (41_sequencer R143, 20_memory R77). They are the host's, not instructions of the
block: each is a sequence of steps. The events of the other agents between two accesses are an argument. -/

namespace Sys2Proof.Machine

/-- The data of a response, if it carries data. -/
def Response.word : Response → Option Word
  | .data v => some v
  | .none => Option.none
  | .written => Option.none
  | .busError _ => Option.none

/-- MemRead(BASE + off, 4): the word returned, and the state after. -/
def memRead (off : Offset) (s : State) : Option (Word × State) :=
  match runEvent (readEvent off 4) s with
  | .next t => t.resp.word.map (·, t)
  | .fault _ => none
  | .refused _ => none

/-- MemRead(BASE + off, 4) after the other agents' events `events`. -/
def memReadAfter (events : List Event) (off : Offset) (s : State) : Option (Word × State) :=
  match runEvents events s with
  | .next t => memRead off t
  | .fault _ => none
  | .refused _ => none

/-- WAITDONE: the other agents' events, then a read of STATUS, until bit 3 of it is 1. None while the host would still
be polling, and where a step is refused. -/
def waitDone : List (List Event) → State → Option (Word × State)
  | [], _ => none
  | events :: rest, s =>
    match memReadAfter events 0x004#9 s with
    | some (v, t) => if v.getLsbD 3 then some (v, t) else waitDone rest t
    | none => none

/-- measure(out h, out t) (R143): the write, the polls, the two results; (failure, h, t) and the state after. R143's
"require STATUS.BUSY = 0" is the caller's premise.
DESIGN CHOICE (log 20): R143 does not say whether other agents' events may come between the STATUS read that shows DONE
and the reads of HUM and TEMP, and R90 speaks of the polls only; the order of steps is open (R11, R219a). So `beforeHum`
and `beforeTemp`, the events right before each of the two reads, are arguments, and may be empty. -/
def measureCall (polls : List (List Event)) (beforeHum beforeTemp : List Event) (s : State) :
    Option ((Bool × Sample × Sample) × State) :=
  match runEvents measureLine s with
  | .next t =>
    match waitDone polls t with
    | some (status, u) =>
      match memReadAfter beforeHum 0x008#9 u with
      | some (hum, v) => (memReadAfter beforeTemp 0x00C#9 v).map fun r => (measureReturn status hum r.1, r.2)
      | none => none
    | none => none
  | .fault _ => none
  | .refused _ => none

end Sys2Proof.Machine
end

