-- ==== Sys2Proof/Safety.lean ====
section
/-! DEFINITION. The terms claims about the block are stated in: which rows are which kind of step, the error conditions
of 60_exceptions R210, the invariant of the reachable states, and the agreement of two machines that R241 needs. -/

namespace Sys2Proof

/-- The rows that write CTRL with CMD = MEASURE (R131, R203). -/
def Instr.isMeasure : Instr → Bool
  | .measure _ => true
  | .wrCtrl data => cmdField data == 0x1#4
  | .busWrite off size data => size == 4 && off == 0x000#9 && cmdField data == 0x1#4
  | _ => false

/-- The rows that write CTRL with CMD = NOP (R133). -/
def Instr.isNop : Instr → Bool
  | .nop _ => true
  | .wrCtrl data => cmdField data == 0x0#4
  | .busWrite off size data => size == 4 && off == 0x000#9 && cmdField data == 0x0#4
  | _ => false

/-- The rows that write CTRL with a reserved CMD (R134). -/
def Instr.isReservedCommand : Instr → Bool
  | .cmdReserved _ _ => true
  | .wrCtrl data => decide (2 ≤ (cmdField data).toNat)
  | .busWrite off size data => size == 4 && off == 0x000#9 && decide (2 ≤ (cmdField data).toNat)
  | _ => false

/-- The rows that are a host access that reads (DIR = 0). -/
def Instr.isHostRead : Instr → Bool
  | .rdCtrl | .rdStatus | .rdHum | .rdTemp | .rdIdx | .rdPrev | .rdCapt | .rdCfg | .rdCnt | .rdBuf _ | .rdReserved _
  | .busErr _ _ .read | .busRead _ _ => true
  | _ => false

/-- The rows that are a host access that writes (DIR = 1). -/
def Instr.isHostWrite : Instr → Bool
  | .nop _ | .measure _ | .cmdReserved _ _ | .wrCtrl _ | .wrIgnored _ _ | .busErr _ _ (.write _) | .busWrite _ _ _ =>
    true
  | _ => false

/-- The rows whose access is a bus error (R214), for a well-formed row. -/
def Instr.isBusError : Instr → Bool
  | .busErr _ _ _ => true
  | .busRead off size => accessIllegal off size
  | .busWrite off size _ => accessIllegal off size
  | _ => false

/-- The rows that name an event: all but EVT.reserved (R85). -/
def Instr.isEvent : Instr → Bool
  | .evtReserved _ => false
  | _ => true

namespace Machine

/-! ## Error conditions (R210) -/

/-- The conditions of R210. -/
inductive Condition where
  | ok
  | trunc
  | cksum
  | overflow
  | busErr
  | lostCap
  | cmdIgnored
deriving DecidableEq, Repr

/-- The model's codes of R210 (D28). -/
def Condition.code : Condition → Nat
  | .ok => 0
  | .trunc => 1
  | .cksum => 2
  | .overflow => 3
  | .busErr => 4
  | .lostCap => 5
  | .cmdIgnored => 6

/-- The result condition that LAST_CAUSE records. -/
def Cause.condition : Cause → Option Condition
  | .none => Option.none
  | .ok => some .ok
  | .trunc => some .trunc
  | .cksum => some .cksum

/-- A step from `b` to `c` latched a capture over a pending one (R215). -/
def lostCapture (b c : Block) : Bool := b.pend && (c.wire != b.wire) && b.pol.selects c.wire

/-- LOSTCAP of a step from `b` to `c`, if it is one (R215). -/
def lostCondition (b c : Block) : Option Condition := if lostCapture b c then some .lostCap else none

/-- The condition a write of CMD meets (R216): MEASURE while busy, or a reserved CMD. -/
def commandCondition (cmd : BitVec 4) (b : Block) : Option Condition :=
  if 2 ≤ cmd.toNat then some .cmdIgnored
  else if cmd = 0x1#4 ∧ b.busy = true then some .cmdIgnored
  else none

/-- The condition a completed tick meets: the result of the decode it ran, or LOSTCAP. -/
def tickCondition (b c : Block) : Option Condition :=
  if b.phase = .window ∧ c.phase = .done then c.lastCause.condition else lostCondition b c

/-- The error condition of a step that completes, if it meets one: at most one by R219(e), and BUSERR before any
register effect. -/
def conditionOf (i : Instr) (s : State) : Option Condition :=
  match i with
  | .tick => tickCondition s.block (s.block.tick s.params s.freeSlots s.freeTimer)
  | .sensorLow => lostCondition s.block (s.block.setSensor false)
  | .sensorRelease => lostCondition s.block (s.block.setSensor true)
  | .service => if s.block.wire = false ∧ s.params.cap ≤ s.block.idx.toNat then some .overflow else none
  | .measure _ => commandCondition 0x1#4 s.block
  | .cmdReserved _ _ => some .cmdIgnored
  | .wrCtrl data => commandCondition (cmdField data) s.block
  | .busErr _ _ _ => some .busErr
  | .busRead off size => if accessIllegal off size then some .busErr else none
  | .busWrite off size data =>
    if accessIllegal off size then some .busErr
    else if off = 0x000#9 then commandCondition (cmdField data) s.block
    else none
  | _ => none

/-! ## The invariant -/

/-- What holds of the block in every reachable state. -/
structure Block.Inv (p : Params) (b : Block) : Prop where
  /-- ARMED = 1 exactly when PHASE = WINDOW (R130). -/
  armed_iff : b.armed = true ↔ b.phase = .window
  /-- DRIVE = 1 exactly when PHASE = TRIG (R130). -/
  drive_iff : b.drive = true ↔ b.phase = .trig
  /-- IDX <= CAP (R27). -/
  idx_le : b.idx.toNat ≤ p.cap
  /-- BUF is in canonical form (R28, log 14). -/
  buf_wf : b.buf.wf p.cap = true
  /-- Every slot below IDX has been written (R52). -/
  written : ∀ j, j < b.idx.toNat → (b.buf.read j).isSome = true
  /-- PT is 0 outside TRIG and WINDOW (R31). -/
  pt_rest : b.busy = false → b.pt = 0
  /-- PT has not reached TRIG_TICKS in TRIG (R135). -/
  pt_trig : b.phase = .trig → b.pt.toNat < p.trigTicks
  /-- PT has not reached WIN_TICKS in WINDOW (R137). -/
  pt_window : b.phase = .window → b.pt.toNat < p.winTicks
  /-- HUM and TEMP are 0 unless VALID (R35, R36). -/
  results_zero : b.valid = false → b.hum = 0 ∧ b.temp = 0
  /-- VALID = 1 only after a cycle whose checksum matched (R37). -/
  valid_iff : b.valid = true ↔ b.lastCause = .ok
  /-- LAST_CAUSE is NONE at reset and while a cycle is in progress, and only then (R38). -/
  cause_iff : b.lastCause = .none ↔ b.phase ≠ .done
  /-- Before the window nothing of the cycle has been recorded (R131, R240). -/
  fresh : b.phase = .idle ∨ b.phase = .trig → b.idx = 0 ∧ b.prev = 0 ∧ b.pol = .fall ∧ b.ovf = false
  /-- A sample is dropped only when the buffer is full (R108). -/
  ovf_full : b.phase = .window → b.ovf = true → b.idx.toNat = p.cap
  /-- TRUNC is fewer than 40 samples (R170, R211). -/
  trunc_idx : b.lastCause = .trunc → b.idx.toNat < nreq

/-- The invariant of the machine: legal parameters (R6) and the invariant of the block. -/
structure State.Inv (s : State) : Prop where
  params_ok : s.params.ok = true
  block_inv : s.block.Inv s.params

/-! ## Two machines in the same cycle (R241) -/

/-- Two blocks agree on everything the current cycle can read: all of R20 but the slots of BUF at IDX and above, and
CAPT while no capture is pending. -/
structure Block.Agree (b c : Block) : Prop where
  cnt : b.cnt = c.cnt
  capt : b.pend = true → b.capt = c.capt
  pend : b.pend = c.pend
  pol : b.pol = c.pol
  armed : b.armed = c.armed
  prev : b.prev = c.prev
  idx : b.idx = c.idx
  buf : ∀ j, j < b.idx.toNat → b.buf.read j = c.buf.read j
  ovf : b.ovf = c.ovf
  phase : b.phase = c.phase
  pt : b.pt = c.pt
  drive : b.drive = c.drive
  sensorOut : b.sensorOut = c.sensorOut
  hum : b.hum = c.hum
  temp : b.temp = c.temp
  valid : b.valid = c.valid
  lastCause : b.lastCause = c.lastCause

/-- Two machines agree: the same parameters and schedule, and agreeing blocks. What the host read before and the epoch
of the free values may differ. -/
structure State.Agree (s t : State) : Prop where
  params : s.params = t.params
  trace : s.trace = t.trace
  block : s.block.Agree t.block

end Machine
end Sys2Proof
end

