-- ==== Sys2Proof/Certificates/Slice0/Obligations.lean ====
section
/-! DEFINITION. The statements for the provers, from the numbered rules of spec/. Every next state is written out as an
update of the state before the step, so that each statement is also the frame of its instruction: what the update does
not name is unchanged. `epoch` is the model's own index of the free values (log 9), and every statement leaves its next
value open (`∃ e`); `resp` is what the host's access returns (R190, R214; log 7). -/

open Sys2Proof Sys2Proof.Machine

/-! ## Encoding -/

/-- R82, R84, R85: decoding the label of a well-formed instruction gives the instruction back, with every operand. -/
def Obligations.DecodeOfEncodeIsTheInstruction : Prop :=
  ∀ (cap : Nat) (i : Instr), i.wellFormed cap = true → decode cap (encode i) = .ok i

/-- R82 to R87: every label the decoder accepts is the label of the instruction it answers, which is well-formed; so no
two labels name one instruction and no reserved encoding falls through to a neighbour. -/
def Obligations.EncodeOfDecodeIsTheLabel : Prop :=
  ∀ (cap : Nat) (l : Label) (i : Instr), decode cap l = .ok i → encode i = l ∧ i.wellFormed cap = true

/-- R81 to R85: labels written out from the tables, with the default CAP of 60 where BUF is concerned. -/
def Obligations.WordsOfTheTablesDecode : Prop :=
  decode 60 (.cmdw 0x00000000#32) = .ok (.nop 0) ∧
  decode 60 (.cmdw 0xFFFFFFF1#32) = .ok (.measure 0xFFFFFFF#28) ∧
  decode 60 (.cmdw 0x0000000F#32) = .ok (.cmdReserved 0xF#4 0) ∧
  decode 60 (.busreq ⟨0x008#9, 4, .read⟩) = .ok .rdHum ∧
  decode 60 (.busreq ⟨0x1EC#9, 4, .read⟩) = .ok (.rdBuf 59#6) ∧
  decode 60 (.busreq ⟨0x1F0#9, 4, .read⟩) = .ok (.rdReserved 0x1F0#9) ∧
  decode 60 (.busreq ⟨0x004#9, 2, .read⟩) = .ok (.busErr 0x004#9 2 .read) ∧
  decode 60 (.busreq ⟨0x000#9, 4, .write 0x1#32⟩) = .ok (.wrCtrl 0x1#32) ∧
  decode 60 (.evt 0x3#4 none) = .ok .service ∧
  decode 60 (.evt 0x4#4 (some ⟨0x004#9, 4, .read⟩)) = .ok (.busRead 0x004#9 4)

/-! ## The step -/

/-- R11, R85, R89: the event at the head of the schedule, which carries its one EVT code, is decoded by the event table
and run, with the schedule moved past it; the step adds nothing else. That a step takes the head of a schedule held in
State is the model's choice (log 1). -/
def Obligations.StepRunsTheDecodedInstruction : Prop :=
  ∀ (s : State) (ev : Event) (rest : List Event) (i : Instr), s.trace = ev :: rest →
    decodeEvt ev.code ev.req = .ok i → step s = exec i { s with trace := rest }

/-- R85, R87: a reserved EVT code names no event and is refused, in every state. -/
def Obligations.ReservedEventIsRefused : Prop :=
  (∀ (code : BitVec 4) (s : State), exec (.evtReserved code) s = .refused (.reservedEvent code)) ∧
  (∀ (code : BitVec 4) (s : State) (rest : List Event), 6 ≤ code.toNat → s.trace = ⟨code, none⟩ :: rest →
    step s = .refused (.reservedEvent code))

/-- R106: SERVICE is enabled exactly when ARMED = 1 and PEND = 1; with SVC_PROMPT no other event is enabled then;
otherwise every other event is enabled, so every event of the table answers a next state somewhere. That an event which
is not enabled is a refusal, and the names of the refusals, are the model's choice (log 13, after 93 S13 and R89); that a
bus error is among the events which answer a next state is the model's reading (log 8, DEDUCED). -/
def Obligations.PromptServiceHold : Prop :=
  ∀ s : State,
    ((∃ t, exec .service s = .next t) ↔ (s.block.armed = true ∧ s.block.pend = true)) ∧
    (¬(s.block.armed = true ∧ s.block.pend = true) → exec .service s = .refused .serviceNotEnabled) ∧
    (s.params.svcPrompt = true → s.block.armed = true → s.block.pend = true →
      ∀ i : Instr, i.isEvent = true → i ≠ .service → exec i s = .refused .serviceOwed) ∧
    (¬(s.params.svcPrompt = true ∧ s.block.armed = true ∧ s.block.pend = true) →
      ∀ i : Instr, i.isEvent = true → i ≠ .service → ∃ t, exec i s = .next t)

/-! ## TICK -/

/-- R102: outside TRIG and WINDOW a tick counts CNT, modulo 2^16, and nothing else changes. -/
def Obligations.TickOutsideACycleOnlyCounts : Prop :=
  ∀ s : State, s.serviceOwed = false → (s.block.phase = .idle ∨ s.block.phase = .done) →
    (∃ e, exec .tick s = .next { s with block := { s.block with cnt := s.block.cnt + 1 }, epoch := e })

/-- R102, R135, R136: in TRIG a tick counts CNT and PT, and on reaching TRIG_TICKS releases the line, arms, enters WINDOW
and clears PT; the release is captured, with the CNT already incremented, only where WIRE rises and POL = RISE. `v` is the
new PT; where 32 bits cannot hold PT + 1 the spec states no result, and the model's choice is to leave it open (log 11).
That PT is 0 after the tick that expires the trigger is R136's example, by the model's reading of R102 (log 12). -/
def Obligations.TickInTheTrigger : Prop :=
  ∀ s : State, s.serviceOwed = false → s.block.phase = .trig →
    ∃ v : BitVec 32, (s.block.pt.toNat + 1 < 2 ^ 32 → v = s.block.pt + 1) ∧
      (v.toNat ≠ s.params.trigTicks →
        (∃ e, exec .tick s = .next { s with
          block := { s.block with cnt := s.block.cnt + 1, pt := v }, epoch := e })) ∧
      (v.toNat = s.params.trigTicks →
        (∃ e, exec .tick s = .next { s with
          block := { s.block with
            cnt := s.block.cnt + 1, drive := false, armed := true, phase := .window, pt := 0,
            capt := if s.block.sensorOut = true ∧ s.block.drive = true ∧ s.block.pol = .rise
                    then s.block.cnt + 1 else s.block.capt,
            pend := if s.block.sensorOut = true ∧ s.block.drive = true ∧ s.block.pol = .rise
                    then true else s.block.pend },
          epoch := e }))

/-- R137, R138: in WINDOW a tick counts CNT and PT, and on reaching WIN_TICKS disarms, decodes (which writes IDX, VALID,
HUM, TEMP and LAST_CAUSE only), enters DONE and clears PT. `v` is the new PT, open where 32 bits cannot hold PT + 1
(log 11). -/
def Obligations.TickInTheWindow : Prop :=
  ∀ s : State, s.serviceOwed = false → s.block.phase = .window →
    ∃ v : BitVec 32, (s.block.pt.toNat + 1 < 2 ^ 32 → v = s.block.pt + 1) ∧
      (v.toNat ≠ s.params.winTicks →
        (∃ e, exec .tick s = .next { s with
          block := { s.block with cnt := s.block.cnt + 1, pt := v }, epoch := e })) ∧
      (v.toNat = s.params.winTicks →
        ∃ (idx : BitVec 7) (valid : Bool) (hum temp : Sample) (cause : Cause),
          (∃ e, exec .tick s = .next { s with
            block := { s.block with
              cnt := s.block.cnt + 1, armed := false, phase := .done, pt := 0, idx := idx, valid := valid,
              hum := hum, temp := temp, lastCause := cause },
            epoch := e }))

/-- R170 (with R161): a window that ends with fewer than 40 samples gives VALID = 0, HUM = TEMP = 0, LAST_CAUSE = TRUNC
and leaves IDX. -/
def Obligations.WindowEndsTruncated : Prop :=
  ∀ s : State, s.serviceOwed = false → s.block.phase = .window → s.block.pt.toNat + 1 = s.params.winTicks →
    s.params.winTicks < 2 ^ 32 → s.block.idx.toNat < 40 →
    (∃ e, exec .tick s = .next { s with
      block := { s.block with
        cnt := s.block.cnt + 1, armed := false, phase := .done, pt := 0, valid := false, hum := 0, temp := 0,
        lastCause := .trunc },
      epoch := e })

/-- R168, R169 (with the pops of R163 to R165 and the index of R166): a window that ends with
n >= 40 samples pops the checksum, temperature and humidity fields from the
end of the buffer, pop k giving bit k, lowers IDX by 40, and reports h and t exactly when the four bytes sum to the
checksum modulo 256. A slot that was never written leaves its bit open. -/
def Obligations.WindowEndsDecoded : Prop :=
  ∀ s : State, s.serviceOwed = false → s.block.phase = .window → s.block.pt.toNat + 1 = s.params.winTicks →
    s.params.winTicks < 2 ^ 32 → 40 ≤ s.block.idx.toNat →
    ∃ (h t : Sample) (ck : BitVec 8),
      (∀ k v, k < 8 → s.block.buf.read (s.block.idx.toNat - 1 - k) = some v →
        ck.getLsbD k = decide (s.params.thresh.toNat < v.toNat)) ∧
      (∀ k v, k < 16 → s.block.buf.read (s.block.idx.toNat - 9 - k) = some v →
        t.getLsbD k = decide (s.params.thresh.toNat < v.toNat)) ∧
      (∀ k v, k < 16 → s.block.buf.read (s.block.idx.toNat - 25 - k) = some v →
        h.getLsbD k = decide (s.params.thresh.toNat < v.toNat)) ∧
      ((h.toNat % 256 + h.toNat / 256 + t.toNat % 256 + t.toNat / 256) % 256 = ck.toNat →
        (∃ e, exec .tick s = .next { s with
          block := { s.block with
            cnt := s.block.cnt + 1, armed := false, phase := .done, pt := 0, idx := s.block.idx - 40,
            valid := true, hum := h, temp := t, lastCause := .ok },
          epoch := e })) ∧
      ((h.toNat % 256 + h.toNat / 256 + t.toNat % 256 + t.toNat / 256) % 256 ≠ ck.toNat →
        (∃ e, exec .tick s = .next { s with
          block := { s.block with
            cnt := s.block.cnt + 1, armed := false, phase := .done, pt := 0, idx := s.block.idx - 40,
            valid := false, hum := 0, temp := 0, lastCause := .cksum },
          epoch := e }))

/-- 95 L1-5 as restated by 90 C3 (R160 to R168): whenever the last 40 samples are the pulses of a frame h, t with the
right checksum, the end of the window reports exactly h and t. -/
def Obligations.CorrectFrameIsReported : Prop :=
  ∀ (s : State) (h t : Sample), s.serviceOwed = false → s.block.phase = .window →
    s.block.pt.toNat + 1 = s.params.winTicks → s.params.winTicks < 2 ^ 32 → 40 ≤ s.block.idx.toNat →
    (∀ k, k < 8 → ∃ v, s.block.buf.read (s.block.idx.toNat - 1 - k) = some v ∧
      decide (s.params.thresh.toNat < v.toNat) =
        (h.toNat % 256 + h.toNat / 256 + t.toNat % 256 + t.toNat / 256).testBit k) →
    (∀ k, k < 16 → ∃ v, s.block.buf.read (s.block.idx.toNat - 9 - k) = some v ∧
      decide (s.params.thresh.toNat < v.toNat) = t.getLsbD k) →
    (∀ k, k < 16 → ∃ v, s.block.buf.read (s.block.idx.toNat - 25 - k) = some v ∧
      decide (s.params.thresh.toNat < v.toNat) = h.getLsbD k) →
    (∃ e, exec .tick s = .next { s with
      block := { s.block with
        cnt := s.block.cnt + 1, armed := false, phase := .done, pt := 0, idx := s.block.idx - 40, valid := true,
        hum := h, temp := t, lastCause := .ok },
      epoch := e })

/-- R247: a train whose last 40 samples are all at most THRESH passes the checksum with HUM = TEMP = 0. -/
def Obligations.AllShortTrainPasses : Prop :=
  ∀ s : State, s.serviceOwed = false → s.block.phase = .window → s.block.pt.toNat + 1 = s.params.winTicks →
    s.params.winTicks < 2 ^ 32 → 40 ≤ s.block.idx.toNat →
    (∀ j, s.block.idx.toNat - 40 ≤ j → j < s.block.idx.toNat →
      ∃ v, s.block.buf.read j = some v ∧ v.toNat ≤ s.params.thresh.toNat) →
    (∃ e, exec .tick s = .next { s with
      block := { s.block with
        cnt := s.block.cnt + 1, armed := false, phase := .done, pt := 0, idx := s.block.idx - 40, valid := true,
        hum := 0, temp := 0, lastCause := .ok },
      epoch := e })

/-! ## The decoder's parts -/

/-- R163, R164, R165: the checksum is pops 1 to 8, the temperature pops 9 to 24, the humidity pops 25 to 40, the k-th
pop of a field giving its bit k. -/
def Obligations.FieldsPopFromTheEnd : Prop :=
  ∀ (p : Params) (slot : Nat → Sample) (n : Nat),
    (∀ off w k, k < w → (field p slot n off w).getLsbD k = sampleBit p (slot (n - 1 - off - k))) ∧
    (∀ k, k < 8 → (frameChecksum p slot n).getLsbD k = sampleBit p (slot (n - 1 - k))) ∧
    (∀ k, k < 16 → (frameTemp p slot n).getLsbD k = sampleBit p (slot (n - 9 - k))) ∧
    (∀ k, k < 16 → (frameHum p slot n).getLsbD k = sampleBit p (slot (n - 25 - k)))

/-- R162: a sample is a 1 exactly when it is above THRESH, unsigned, with the boundary the source pins. -/
def Obligations.ThresholdIsStrict : Prop :=
  (∀ (p : Params) (v : Sample), sampleBit p v = true ↔ p.thresh.toNat < v.toNat) ∧
  (∀ p : Params, sampleBit p 0 = false) ∧
  (∀ p : Params, p.thresh = 40 → sampleBit p 39 = false ∧ sampleBit p 40 = false ∧ sampleBit p 41 = true)

/-- R167: Sum8 is the sum of the four bytes modulo 256, with the rule's corner cases and example. -/
def Obligations.SumOfTheFourBytes : Prop :=
  (∀ h t : Sample,
    (sum8 h t).toNat = (h.toNat % 256 + h.toNat / 256 + t.toNat % 256 + t.toNat / 256) % 256) ∧
  sum8 0xFFFF#16 0xFFFF#16 = 0xFC#8 ∧ sum8 0 0 = 0 ∧ sum8 0x028C#16 0x015F#16 = 0xEE#8

/-- 95 L1-4 (R167): flipping any one bit of humidity or temperature changes Sum8, so the checksum of the true frame no
longer matches. -/
def Obligations.SingleBitFlipBreaksTheChecksum : Prop :=
  ∀ (h t : Sample) (j : Nat), j < 16 →
    sum8 (h ^^^ (1#16 <<< j)) t ≠ sum8 h t ∧ sum8 h (t ^^^ (1#16 <<< j)) ≠ sum8 h t

/-- R171: an admitted decode depends on the slots n-40 .. n-1 alone; and in every state of the invariant those are
written slots, so what never-written slots hold does not matter to it. -/
def Obligations.DecodeReadsOnlyTheLastForty : Prop :=
  (∀ (p : Params) (slot slot' : Nat → Sample) (n : Nat), 40 ≤ n →
    (∀ j, n - 40 ≤ j → j < n → slot j = slot' j) →
    frameChecksum p slot n = frameChecksum p slot' n ∧ frameTemp p slot n = frameTemp p slot' n ∧
      frameHum p slot n = frameHum p slot' n) ∧
  (∀ (p : Params) (b : Block) (free free' : Nat → Sample), b.Inv p →
    b.decodeFrame p free = b.decodeFrame p free')

/-- R175, R38: after a truncated and after a mismatched cycle every register but IDX reads the same, and no register
shows LAST_CAUSE. -/
def Obligations.FailuresLookAlike : Prop :=
  ∀ (p : Params) (free : Nat → Sample) (b : Block) (off : Offset),
    (off ≠ 0x010#9 → offLow off = 0 →
      readReg p free b.truncatedResult off = readReg p free { b with idx := b.idx - 40 }.mismatchResult off) ∧
    (∀ c : Cause, readReg p free { b with lastCause := c } off = readReg p free b off)

/-! ## The sensor and the service -/

/-- R103 (with R100, R101): SENSOR_LOW clears SENSOR_OUT; where WIRE falls and POL = FALL it latches CNT into CAPT and
sets PEND. -/
def Obligations.SensorLowPullsTheLine : Prop :=
  ∀ s : State, s.serviceOwed = false →
    (∃ e, exec .sensorLow s = .next { s with
      block := { s.block with
        sensorOut := false,
        capt := if s.block.wire = true ∧ s.block.pol = .fall then s.block.cnt else s.block.capt,
        pend := if s.block.wire = true ∧ s.block.pol = .fall then true else s.block.pend },
      epoch := e })

/-- R104 (with R100, R101): SENSOR_RELEASE sets SENSOR_OUT; where WIRE rises and POL = RISE it latches CNT into CAPT and
sets PEND; while DRIVE = 1 the line stays low and nothing is captured. -/
def Obligations.SensorReleaseFreesTheLine : Prop :=
  ∀ s : State, s.serviceOwed = false →
    (∃ e, exec .sensorRelease s = .next { s with
      block := { s.block with
        sensorOut := true,
        capt := if s.block.sensorOut = false ∧ s.block.drive = false ∧ s.block.pol = .rise
                then s.block.cnt else s.block.capt,
        pend := if s.block.sensorOut = false ∧ s.block.drive = false ∧ s.block.pol = .rise
                then true else s.block.pend },
      epoch := e })

/-- R105, R108: SERVICE takes the pending flag; with the line high POL becomes FALL and no sample is recorded; with it
low POL becomes RISE and CAPT -16 PREV goes to slot IDX, or at CAP is dropped with OVF set; PREV becomes CAPT in every
branch. -/
def Obligations.ServiceHandlesTheCapture : Prop :=
  ∀ s : State, s.block.armed = true → s.block.pend = true →
    (s.block.wire = true →
      (∃ e, exec .service s = .next { s with
        block := { s.block with pend := false, pol := .fall, prev := s.block.capt }, epoch := e })) ∧
    (s.block.wire = false → s.block.idx.toNat < s.params.cap →
      ∃ buf : Buffer, buf.read s.block.idx.toNat = some (s.block.capt - s.block.prev) ∧
        (∀ j, j ≠ s.block.idx.toNat → buf.read j = s.block.buf.read j) ∧
        (∃ e, exec .service s = .next { s with
          block := { s.block with pend := false, pol := .rise, prev := s.block.capt, buf := buf,
                                  idx := s.block.idx + 1 },
          epoch := e })) ∧
    (s.block.wire = false → s.params.cap ≤ s.block.idx.toNat →
      (∃ e, exec .service s = .next { s with
        block := { s.block with pend := false, pol := .rise, prev := s.block.capt, ovf := true },
        epoch := e }))

/-- R109: SERVICE is the pure function Recorder; new_pol does not depend on pol, and equals the toggle of POL whenever
the level matches the edge POL selected. -/
def Obligations.ServiceIsTheRecorder : Prop :=
  ∀ s : State, s.block.armed = true → s.block.pend = true →
    ∃ t : State, exec .service s = .next t ∧
      (t.block.pol, t.block.prev) =
        ((recorder s.block.pol s.block.capt s.block.prev s.block.wire s.block.idx).1,
         (recorder s.block.pol s.block.capt s.block.prev s.block.wire s.block.idx).2.1) ∧
      ((recorder s.block.pol s.block.capt s.block.prev s.block.wire s.block.idx).2.2 = none →
        t.block.buf = s.block.buf ∧ t.block.idx = s.block.idx ∧ t.block.ovf = s.block.ovf) ∧
      (∀ v, (recorder s.block.pol s.block.capt s.block.prev s.block.wire s.block.idx).2.2 = some v →
        (s.block.idx.toNat < s.params.cap → t.block.buf.read s.block.idx.toNat = some v ∧
          t.block.idx = s.block.idx + 1 ∧ t.block.ovf = s.block.ovf) ∧
        (s.params.cap ≤ s.block.idx.toNat → t.block.buf = s.block.buf ∧ t.block.idx = s.block.idx ∧
          t.block.ovf = true)) ∧
      (∀ pol, (recorder pol s.block.capt s.block.prev s.block.wire s.block.idx).1 = t.block.pol) ∧
      ((s.block.wire = false ↔ s.block.pol = .fall) → t.block.pol ≠ s.block.pol)

/-- R107: the interval is the elapsed ticks modulo 2^16, whatever the counter's wrap; the document's example. -/
def Obligations.IntervalIsWrapSafe : Prop :=
  (∀ start n : Nat, interval (BitVec.ofNat 16 (start + n)) (BitVec.ofNat 16 start) = BitVec.ofNat 16 n) ∧
  interval 40 65500 = 76

/-- R111: with SVC_PROMPT, a capture that a step makes while armed is serviced with the level of its own edge, so that
the service that follows toggles POL. -/
def Obligations.PromptServiceSeesItsOwnEdge : Prop :=
  ∀ (i : Instr) (s t : State), s.params.svcPrompt = true → s.block.armed = true → s.serviceOwed = false →
    exec i s = .next t → t.block.armed = true → t.block.pend = true →
    (t.block.wire = false ↔ t.block.pol = .fall) ∧
      ∃ u : State, exec .service t = .next u ∧ u.block.pol ≠ t.block.pol

/-- R136, R248: at the end of the trigger with the line idle, the service of the block's own falling edge records no
sample; its only effect on the cycle is PREV <- the trigger-start timestamp. -/
def Obligations.TriggerEdgeRecordsNoSample : Prop :=
  ∀ s : State, s.Inv → s.block.phase = .trig → s.block.pt.toNat + 1 = s.params.trigTicks →
    s.params.trigTicks < 2 ^ 32 → s.block.sensorOut = true → s.block.pend = true →
    ∃ t u : State, exec .tick s = .next t ∧ exec .service t = .next u ∧
      u.block = { s.block with
        cnt := s.block.cnt + 1, drive := false, armed := true, phase := .window, pt := 0, pend := false,
        prev := s.block.capt }

/-! ## Commands -/

/-- R131: MEASURE in IDLE or DONE, in whichever form it is written and whatever CMDW[31:4], resets the cycle and then
drives the line low; where the line was high the block captures its own falling edge. -/
def Obligations.MeasureStartsACycle : Prop :=
  ∀ (i : Instr) (s : State), i.isMeasure = true → s.serviceOwed = false →
    (s.block.phase = .idle ∨ s.block.phase = .done) →
    (∃ e, exec i s = .next { s with
      block := { s.block with
        idx := 0, pend := s.block.wire, pol := .fall, prev := 0, ovf := false, valid := false, hum := 0, temp := 0,
        lastCause := .none, pt := 0, phase := .trig, drive := true,
        capt := if s.block.wire = true then s.block.cnt else s.block.capt },
      resp := .written, epoch := e })

/-- R132: MEASURE in TRIG or WINDOW changes no state and raises no error. -/
def Obligations.MeasureIsIgnoredWhileBusy : Prop :=
  ∀ (i : Instr) (s : State), i.isMeasure = true → s.serviceOwed = false →
    (s.block.phase = .trig ∨ s.block.phase = .window) →
    (∃ e, exec i s = .next { s with resp := .written, epoch := e })

/-- R133: NOP has no effect, in every phase. -/
def Obligations.NopHasNoEffect : Prop :=
  ∀ (i : Instr) (s : State), i.isNop = true → s.serviceOwed = false →
    (∃ e, exec i s = .next { s with resp := .written, epoch := e })

/-- R134: a reserved command has no effect, in every phase, and raises no error; CMDW = 0x00000011 is MEASURE. -/
def Obligations.ReservedCommandHasNoEffect : Prop :=
  (∀ (i : Instr) (s : State), i.isReservedCommand = true → s.serviceOwed = false →
    (∃ e, exec i s = .next { s with resp := .written, epoch := e })) ∧
  Instr.isMeasure (.wrCtrl 0x00000011#32) = true

/-! ## Bus accesses -/

/-- R83, R84, R190, R202: the events BUS_READ and BUS_WRITE run the row that the decode order R83 and the offset table
R84 select, for every offset, size and data; R203, R82: a write of CTRL runs the command its data word decodes to. -/
def Obligations.BusAccessRunsItsRow : Prop :=
  ∀ (off : Offset) (size : Nat) (data : Word) (s : State),
    exec (.busRead off size) s = exec (decodeBusReq s.params.cap ⟨off, size, .read⟩) s ∧
    exec (.busWrite off size data) s = exec (decodeBusReq s.params.cap ⟨off, size, .write data⟩) s ∧
    exec (.wrCtrl data) s = exec (decodeCmdw data) s

/-- R191, R193 to R197, R199: what the plain registers return, as rows and as BUS_READ events; a read changes nothing
but the host's response. -/
def Obligations.ReadsReturnTheirRegister : Prop :=
  ∀ s : State, s.serviceOwed = false →
    exec .rdCtrl s = .next { s with resp := .data 0 } ∧
    exec .rdHum s = .next { s with resp := .data (s.block.hum.setWidth 32) } ∧
    exec .rdTemp s = .next { s with resp := .data (s.block.temp.setWidth 32) } ∧
    exec .rdIdx s = .next { s with resp := .data (s.block.idx.setWidth 32) } ∧
    exec .rdPrev s = .next { s with resp := .data (s.block.prev.setWidth 32) } ∧
    exec .rdCapt s = .next { s with resp := .data (s.block.capt.setWidth 32) } ∧
    exec .rdCnt s = .next { s with resp := .data (s.block.cnt.setWidth 32) } ∧
    exec (.busRead 0x000#9 4) s = .next { s with resp := .data 0 } ∧
    exec (.busRead 0x008#9 4) s = .next { s with resp := .data (s.block.hum.setWidth 32) } ∧
    exec (.busRead 0x00C#9 4) s = .next { s with resp := .data (s.block.temp.setWidth 32) } ∧
    exec (.busRead 0x010#9 4) s = .next { s with resp := .data (s.block.idx.setWidth 32) } ∧
    exec (.busRead 0x014#9 4) s = .next { s with resp := .data (s.block.prev.setWidth 32) } ∧
    exec (.busRead 0x018#9 4) s = .next { s with resp := .data (s.block.capt.setWidth 32) } ∧
    exec (.busRead 0x020#9 4) s = .next { s with resp := .data (s.block.cnt.setWidth 32) }

/-- R48, R198: CFG returns CAP in bits 7:0, 0 in bits 15:8 and THRESH in bits 31:16; 0x0028003C with the defaults. -/
def Obligations.CfgShowsTheParameters : Prop :=
  (∀ s : State, s.serviceOwed = false → s.params.cap < 256 →
    ∃ v : Word, exec .rdCfg s = .next { s with resp := .data v } ∧
      v.toNat = s.params.thresh.toNat * 65536 + s.params.cap) ∧
  cfgWord {} = 0x0028003C#32

/-- R42, R192: STATUS is a live view of state, field by field, and its values after power-on reset. -/
def Obligations.StatusShowsTheFlags : Prop :=
  (∀ s : State, s.serviceOwed = false →
    ∃ v : Word, exec .rdStatus s = .next { s with resp := .data v } ∧
      v.extractLsb' 0 2 = s.block.phase.code ∧
      (v.getLsbD 2 = true ↔ (s.block.phase = .trig ∨ s.block.phase = .window)) ∧
      (v.getLsbD 3 = true ↔ s.block.phase = .done) ∧
      v.getLsbD 4 = s.block.valid ∧ v.getLsbD 5 = s.block.ovf ∧ v.getLsbD 6 = s.block.armed ∧
      (v.getLsbD 7 = true ↔ s.block.pol = .rise) ∧ v.getLsbD 8 = s.block.pend ∧ v.getLsbD 9 = s.block.drive ∧
      v.getLsbD 10 = (s.block.sensorOut && !s.block.drive) ∧ v.extractLsb' 11 21 = 0#21) ∧
  (Block.powerOn true).status = 0x00000400#32 ∧ (Block.powerOn false).status = 0#32

/-- R200: a read of BUF[i] returns the slot where it has been written, and otherwise some 16-bit value, zero-extended:
the free value draw() (log 9), which the statement leaves open. -/
def Obligations.BufReadsReturnTheSlot : Prop :=
  ∀ (s : State) (i : BitVec 6), s.serviceOwed = false → i.toNat < s.params.cap →
    ∃ v : Sample, exec (.rdBuf i) s = .next { s with resp := .data (v.setWidth 32) } ∧
      ∀ x, s.block.buf.read i.toNat = some x → v = x

/-- R201: a reserved offset reads 0: as the row RD.reserved, as a BUF slot at CAP or above, and as a BUS_READ. -/
def Obligations.ReservedOffsetsReadZero : Prop :=
  ∀ s : State, s.serviceOwed = false →
    (∀ off : Offset, exec (.rdReserved off) s = .next { s with resp := .data 0 }) ∧
    (∀ i : BitVec 6, s.params.cap ≤ i.toNat → exec (.rdBuf i) s = .next { s with resp := .data 0 }) ∧
    (∀ off : Offset, off.isReserved s.params.cap = true →
      exec (.busRead off 4) s = .next { s with resp := .data 0 })

/-- R204: a write to any offset but 0x000 is ignored; no state changes and no error is raised. -/
def Obligations.OtherWritesAreIgnored : Prop :=
  ∀ (s : State) (off : Offset) (data : Word), s.serviceOwed = false →
    (∃ e, exec (.wrIgnored off data) s = .next { s with resp := .written, epoch := e }) ∧
    (off.toNat % 4 = 0 → off ≠ 0 →
      (∃ e, exec (.busWrite off 4 data) s = .next { s with resp := .written, epoch := e }))

/-- R214: an access with SIZE != 4 or OFF[1:0] != 0 gets an error response and changes no state, whatever it was. That it
is a next state with an error response, and no stop, is the model's reading (log 8, DEDUCED): 93 S7 calls the treatment
a fault. -/
def Obligations.BusErrorChangesNoState : Prop :=
  ∀ (s : State) (off : Offset) (size : Nat), s.serviceOwed = false → (size ≠ 4 ∨ off.toNat % 4 ≠ 0) →
    (∀ access : Access,
      (∃ e, exec (.busErr off size access) s = .next { s with resp := .busError off, epoch := e })) ∧
    (∃ e, exec (.busRead off size) s = .next { s with resp := .busError off, epoch := e }) ∧
    (∀ data : Word, (∃ e, exec (.busWrite off size data) s = .next { s with resp := .busError off, epoch := e }))

/-- R66: no read changes any state of the block, and the same register read again at once returns the same response. -/
def Obligations.ReadsChangeNoState : Prop :=
  ∀ (i : Instr) (s t : State), i.isHostRead = true → exec i s = .next t →
    t.block = s.block ∧ t.params = s.params ∧ t.trace = s.trace ∧
      (i.isBusError = false → ∃ u : State, exec i t = .next u ∧ u.resp = t.resp)

/-- R67: of the writes, only a write of CTRL with CMD = MEASURE may change state of the block. -/
def Obligations.OnlyMeasureWritesHaveAnEffect : Prop :=
  ∀ (i : Instr) (s t : State), i.isHostWrite = true → i.isMeasure = false → exec i s = .next t →
    t.block = s.block ∧ t.params = s.params ∧ t.trace = s.trace

/-- R61, R63: a bus address maps to an offset exactly when it lies in BASE..BASE+0x1FF, and a register is its four byte
lanes, byte 3 uppermost. -/
def Obligations.WindowAddressesAndLanes : Prop :=
  (∀ (p : Params) (addr : Nat) (off : Offset),
    windowOffset p addr = some off ↔ (p.base ≤ addr ∧ addr < p.base + 0x200 ∧ off.toNat = addr - p.base)) ∧
  (∀ v : Word, byteLane v 3 ++ byteLane v 2 ++ byteLane v 1 ++ byteLane v 0 = v)

/-! ## Whole-machine rules -/

/-- R130: PHASE moves only along the four arrows, by MEASURE and by the tick on which PT reaches its count. -/
def Obligations.PhaseMovesOnlyAlongItsArrows : Prop :=
  ∀ (i : Instr) (s t : State), exec i s = .next t → t.block.phase ≠ s.block.phase →
    ((s.block.phase = .idle ∨ s.block.phase = .done) ∧ t.block.phase = .trig ∧ i.isMeasure = true) ∨
    (s.block.phase = .trig ∧ t.block.phase = .window ∧ i = .tick ∧
      (s.block.pt.toNat + 1 < 2 ^ 32 → s.block.pt.toNat + 1 = s.params.trigTicks)) ∨
    (s.block.phase = .window ∧ t.block.phase = .done ∧ i = .tick ∧
      (s.block.pt.toNat + 1 < 2 ^ 32 → s.block.pt.toNat + 1 = s.params.winTicks))

/-- R21: each TICK adds 1 to CNT modulo 2^16, nothing else writes it, and its reset value is 0. -/
def Obligations.CounterCountsTicksOnly : Prop :=
  (∀ (i : Instr) (s t : State), exec i s = .next t →
    t.block.cnt = if i = .tick then s.block.cnt + 1 else s.block.cnt) ∧
  (∀ s : State, s.assertReset.block.cnt = 0) ∧ State.reset.block.cnt = 0

/-- R28: only SERVICE writes a slot, and only slot IDX when IDX < CAP; no slot is ever cleared. -/
def Obligations.SlotsAreWrittenByServiceOnly : Prop :=
  ∀ (i : Instr) (s t : State) (j : Nat), exec i s = .next t → t.block.buf.read j ≠ s.block.buf.read j →
    i = .service ∧ j = s.block.idx.toNat ∧ s.block.idx.toNat < s.params.cap ∧
      (t.block.buf.read j).isSome = true

/-- R20, "written by", the recorder's elements: a capture needs a change of WIRE by the sensor, by MEASURE or by the end
of the trigger, and latches CNT; PEND is cleared by SERVICE and MEASURE; POL, PREV and OVF by those two; IDX also by the
tick that ends the window. -/
def Obligations.RecorderElementsHaveTheirWriters : Prop :=
  ∀ (i : Instr) (s t : State), exec i s = .next t →
    ((t.block.capt ≠ s.block.capt ∨ (s.block.pend = false ∧ t.block.pend = true)) →
      (i = .sensorLow ∨ i = .sensorRelease ∨ i.isMeasure = true ∨ (i = .tick ∧ s.block.phase = .trig)) ∧
        t.block.wire ≠ s.block.wire ∧ t.block.pend = true ∧ t.block.capt = t.block.cnt) ∧
    (s.block.pend = true → t.block.pend = false → i = .service ∨ i.isMeasure = true) ∧
    (t.block.pol ≠ s.block.pol → i = .service ∨ i.isMeasure = true) ∧
    (t.block.prev ≠ s.block.prev → i = .service ∨ i.isMeasure = true) ∧
    (t.block.ovf ≠ s.block.ovf → i = .service ∨ i.isMeasure = true) ∧
    (t.block.idx ≠ s.block.idx →
      i = .service ∨ i.isMeasure = true ∨ (i = .tick ∧ s.block.phase = .window ∧ t.block.phase = .done))

/-- R20, "written by", the sequencer's elements and the results. -/
def Obligations.SequencerElementsHaveTheirWriters : Prop :=
  ∀ (i : Instr) (s t : State), exec i s = .next t →
    (t.block.armed ≠ s.block.armed → i = .tick) ∧
    (t.block.pt ≠ s.block.pt → i = .tick ∨ i.isMeasure = true) ∧
    (t.block.drive ≠ s.block.drive → i.isMeasure = true ∨ (i = .tick ∧ s.block.phase = .trig)) ∧
    (t.block.sensorOut ≠ s.block.sensorOut → i = .sensorLow ∨ i = .sensorRelease) ∧
    ((t.block.hum ≠ s.block.hum ∨ t.block.temp ≠ s.block.temp ∨ t.block.valid ≠ s.block.valid ∨
        t.block.lastCause ≠ s.block.lastCause) →
      i.isMeasure = true ∨ (i = .tick ∧ s.block.phase = .window ∧ t.block.phase = .done))

/-- R139: nothing but a tick moves a running cycle: no command, access, sensor event or service ends TRIG or WINDOW. -/
def Obligations.RunningCycleCannotBeEnded : Prop :=
  ∀ (i : Instr) (s t : State), exec i s = .next t → (s.block.phase = .trig ∨ s.block.phase = .window) → i ≠ .tick →
    t.block.phase = s.block.phase ∧ t.block.pt = s.block.pt ∧ t.block.drive = s.block.drive ∧
      t.block.armed = s.block.armed

/-- R141, R78: while PHASE = DONE nothing but an accepted MEASURE changes the results, IDX, OVF, the slots, POL or PREV;
captures are never serviced: SERVICE is not enabled, which the model answers with the refusal serviceNotEnabled (the
model's choice, log 13). -/
def Obligations.DoneHoldsTheResults : Prop :=
  ∀ (i : Instr) (s : State), s.Inv → s.block.phase = .done →
    exec .service s = .refused .serviceNotEnabled ∧
    (i.isMeasure = false → ∀ t : State, exec i s = .next t →
      t.block.phase = .done ∧ t.block.valid = s.block.valid ∧ t.block.hum = s.block.hum ∧
        t.block.temp = s.block.temp ∧ t.block.idx = s.block.idx ∧ t.block.ovf = s.block.ovf ∧
        t.block.buf = s.block.buf ∧ t.block.pol = s.block.pol ∧ t.block.prev = s.block.prev ∧
        t.block.lastCause = s.block.lastCause)

/-- R53: BUF and IDX are written by SERVICE only while ARMED = 1; ARMED = 1 only while PHASE = WINDOW; the decode runs
only in the step that clears ARMED; MEASURE writes IDX and PREV only when ARMED = 0. -/
def Obligations.OwnershipIsByPhase : Prop :=
  ∀ (i : Instr) (s t : State), s.Inv → exec i s = .next t →
    (s.block.armed = true → s.block.phase = .window) ∧
    (t.block.buf ≠ s.block.buf → i = .service ∧ s.block.armed = true) ∧
    ((t.block.idx ≠ s.block.idx ∨ t.block.prev ≠ s.block.prev) →
      (i = .service ∧ s.block.armed = true) ∨ (i.isMeasure = true ∧ s.block.armed = false) ∨
        (i = .tick ∧ s.block.armed = true ∧ t.block.armed = false)) ∧
    ((s.block.phase = .window ∧ t.block.phase = .done) → s.block.armed = true ∧ t.block.armed = false)

/-- R244: while a cycle runs HUM, TEMP and VALID are 0, and a host read returns these cleared values. -/
def Obligations.ResultsReadZeroWhileBusy : Prop :=
  ∀ s : State, s.Inv → (s.block.phase = .trig ∨ s.block.phase = .window) →
    s.block.hum = 0 ∧ s.block.temp = 0 ∧ s.block.valid = false ∧
    (s.serviceOwed = false →
      exec .rdHum s = .next { s with resp := .data 0 } ∧ exec .rdTemp s = .next { s with resp := .data 0 } ∧
      ∃ v : Word, exec .rdStatus s = .next { s with resp := .data v } ∧ v.getLsbD 4 = false)

/-- R210: the record that each error condition of a completed step leaves: LAST_CAUSE and VALID for the three results;
OVF, with the buffer unchanged, for OVERFLOW; for BUSERR no change of the block and an error response (a next state by
the model's reading, log 8); for LOSTCAP PEND kept and CAPT overwritten with CNT (R215), with OVF, IDX, the slots, the
results, LAST_CAUSE and the host's response unchanged; for CMD_IGNORED no change of the block. -/
def Obligations.ConditionsAreRecordedAsListed : Prop :=
  ∀ (i : Instr) (s t : State), exec i s = .next t →
    (conditionOf i s = some .ok → t.block.lastCause = .ok ∧ t.block.valid = true) ∧
    (conditionOf i s = some .trunc → t.block.lastCause = .trunc ∧ t.block.valid = false) ∧
    (conditionOf i s = some .cksum → t.block.lastCause = .cksum ∧ t.block.valid = false) ∧
    (conditionOf i s = some .overflow → t.block.ovf = true ∧ t.block.buf = s.block.buf) ∧
    (conditionOf i s = some .busErr → t.block = s.block ∧ ∃ off, t.resp = .busError off) ∧
    (conditionOf i s = some .lostCap → s.block.pend = true ∧ t.block.pend = true ∧ t.block.capt = t.block.cnt ∧
      t.block.ovf = s.block.ovf ∧ t.block.idx = s.block.idx ∧ t.block.buf = s.block.buf ∧
      t.block.valid = s.block.valid ∧ t.block.hum = s.block.hum ∧ t.block.temp = s.block.temp ∧
      t.block.lastCause = s.block.lastCause ∧ t.resp = s.resp) ∧
    (conditionOf i s = some .cmdIgnored → t.block = s.block)

/-! ## Invariants -/

/-- Every step keeps the invariant of the reachable states: R27, R52, R130 and the others named in `Block.Inv`, with the
canonical form of BUF (log 14). -/
def Obligations.StepKeepsTheInvariant : Prop :=
  ∀ s t : State, s.Inv → step s = .next t → t.Inv

/-- The invariant holds after power-on with any legal parameters, whatever the sensor does, and so at reset. -/
def Obligations.PowerOnMeetsTheInvariant : Prop :=
  (∀ (p : Params) (sensorOut : Bool), p.ok = true → (State.powerOn p sensorOut).Inv) ∧ State.reset.Inv

/-- R240: the reset input puts every element to its reset value, SENSOR_OUT excepted, which is an input
and stays (the model's choice, log 17); so does power-on. -/
def Obligations.ResetPutsEveryElementToItsValue : Prop :=
  ∀ s : State,
    s.assertReset.block =
      { cnt := 0, capt := 0, pend := false, pol := .fall, armed := false, prev := 0, idx := 0, buf := [],
        ovf := false, phase := .idle, pt := 0, drive := false, sensorOut := s.block.sensorOut, hum := 0, temp := 0,
        valid := false, lastCause := .none } ∧
    s.assertReset.params = s.params ∧
    (∀ (p : Params) (so : Bool), (State.powerOn p so).block = { s.assertReset.block with sensorOut := so })

/-- R6, D35: a parameter set outside the constraints is refused at construction, a legal one is taken, and no step
changes a parameter. -/
def Obligations.ParametersAreCheckedAndConstant : Prop :=
  (∀ (p : Params) (so : Bool), State.construct p so =
    if 40 ≤ p.cap ∧ p.cap ≤ 64 ∧ 0 < p.tickUs ∧ 1 ≤ p.trigTicks ∧ 10000 ≤ p.trigTicks * p.tickUs ∧
        1 ≤ p.winTicks ∧ p.winTicks ≤ 2 ^ 32 - 1 ∧ p.base % 0x200 = 0
    then .next (State.powerOn p so) else .refused .parametersOutOfRange) ∧
  (∀ s t : State, step s = .next t → t.params = s.params)

/-! ## Cycles -/

/-- R241: an accepted MEASURE makes two machines agree whatever their earlier cycles left, if they have the same
parameters, schedule, CNT and sensor. -/
def Obligations.MeasureForgetsEarlierCycles : Prop :=
  ∀ (i : Instr) (s t : State), s.Inv → t.Inv → i.isMeasure = true → s.block.busy = false → t.block.busy = false →
    s.params = t.params → s.trace = t.trace → s.block.cnt = t.block.cnt → s.block.sensorOut = t.block.sensorOut →
    ∃ s' t' : State, exec i s = .next s' ∧ exec i t = .next t' ∧ s'.Agree t'

/-- R241, "each cycle's reset must fully clear prior state": agreement is kept by every step, so the cycles that follow
an accepted MEASURE, their samples and their results, do not depend on what the slots of BUF and an unserviced CAPT held
before it. The bound on TRIG_TICKS is that PT can reach it; beyond it PT's wrap is a free value (log 11). -/
def Obligations.CycleAgreementIsKept : Prop :=
  ∀ s t s' : State, s.Inv → t.Inv → s.Agree t → s.params.trigTicks < 2 ^ 32 → step s = .next s' →
    ∃ t' : State, step t = .next t' ∧ s'.Agree t'

/-- R142: after an accepted MEASURE the line is driven low for exactly TRIG_TICKS ticks, and the block is then armed. -/
def Obligations.TriggerLastsItsTicks : Prop :=
  ∀ (i : Instr) (s : State) (n : Nat), s.Inv → s.block.busy = false → i.isMeasure = true →
    s.params.trigTicks < 2 ^ 32 → n ≤ s.params.trigTicks →
    ∃ u t : State, exec i s = .next u ∧ runEvents (ticks n) u = .next t ∧
      (n < s.params.trigTicks → t.block.phase = .trig ∧ t.block.drive = true ∧ t.block.armed = false) ∧
      (n = s.params.trigTicks → t.block.phase = .window ∧ t.block.drive = false ∧ t.block.armed = true ∧
        t.block.pt = 0)

/-- R142: with no capture pending, ARMED = 1 holds for exactly the ticks that are left of WIN_TICKS, and the cycle is
then done. -/
def Obligations.WindowLastsItsTicks : Prop :=
  ∀ (s : State) (n : Nat), s.Inv → s.block.phase = .window → s.block.pend = false →
    s.block.pt.toNat + n ≤ s.params.winTicks →
    ∃ t : State, runEvents (ticks n) s = .next t ∧
      (s.block.pt.toNat + n < s.params.winTicks → t.block.phase = .window ∧ t.block.armed = true) ∧
      (s.block.pt.toNat + n = s.params.winTicks → t.block.phase = .done ∧ t.block.armed = false)

/-! ## Every row as a step -/

/-- R80, R85: a row of every form runs in a step that carries exactly one EVT code: a CMDW as the data of the BUS_WRITE
at 0x000, a BUSREQ as the address phase of its BUS_READ or BUS_WRITE, an EVT as itself; that step does what the row does.
That a step takes the head of a schedule held in State is the model's choice (log 1). -/
def Obligations.EveryRowRunsAsItsEvent : Prop :=
  (∀ (s : State) (l : Label) (rest : List Event) (i : Instr), s.trace = l.event :: rest →
    decode s.params.cap l = .ok i → step s = exec i { s with trace := rest }) ∧
  (∀ w : Word, (Label.cmdw w).event = ⟨0x5#4, some ⟨0x000#9, 4, .write w⟩⟩) ∧
  (∀ r : BusReq, (Label.busreq r).event = ⟨if r.access = .read then 0x4#4 else 0x5#4, some r⟩) ∧
  (∀ (code : BitVec 4) (req : Option BusReq), (Label.evt code req).event = ⟨code, req⟩)
end

