-- ==== Sys2Proof/Laws/State.lean ====
section
/-! SUPPORT. One lemma per field per named update of State and Block, so that no proof unfolds a record update. -/

namespace Sys2Proof.Machine

/-! ## Updates of State -/

@[simp] theorem State.complete_params (s : State) (b : Block) : (s.complete b).params = s.params := rfl
@[simp] theorem State.complete_block (s : State) (b : Block) : (s.complete b).block = b := rfl
@[simp] theorem State.complete_trace (s : State) (b : Block) : (s.complete b).trace = s.trace := rfl
@[simp] theorem State.complete_resp (s : State) (b : Block) : (s.complete b).resp = s.resp := rfl
@[simp] theorem State.complete_epoch (s : State) (b : Block) : (s.complete b).epoch = s.epoch + 1 := rfl

@[simp] theorem State.finishWrite_params (s : State) (b : Block) : (s.finishWrite b).params = s.params := rfl
@[simp] theorem State.finishWrite_block (s : State) (b : Block) : (s.finishWrite b).block = b := rfl
@[simp] theorem State.finishWrite_trace (s : State) (b : Block) : (s.finishWrite b).trace = s.trace := rfl
@[simp] theorem State.finishWrite_resp (s : State) (b : Block) : (s.finishWrite b).resp = .written := rfl
@[simp] theorem State.finishWrite_epoch (s : State) (b : Block) : (s.finishWrite b).epoch = s.epoch + 1 := rfl

@[simp] theorem State.finishRead_params (s : State) (v : Word) : (s.finishRead v).params = s.params := rfl
@[simp] theorem State.finishRead_block (s : State) (v : Word) : (s.finishRead v).block = s.block := rfl
@[simp] theorem State.finishRead_trace (s : State) (v : Word) : (s.finishRead v).trace = s.trace := rfl
@[simp] theorem State.finishRead_resp (s : State) (v : Word) : (s.finishRead v).resp = .data v := rfl
@[simp] theorem State.finishRead_epoch (s : State) (v : Word) : (s.finishRead v).epoch = s.epoch := rfl

@[simp] theorem State.raiseBusError_params (s : State) (off : Offset) : (s.raiseBusError off).params = s.params := rfl
@[simp] theorem State.raiseBusError_block (s : State) (off : Offset) : (s.raiseBusError off).block = s.block := rfl
@[simp] theorem State.raiseBusError_trace (s : State) (off : Offset) : (s.raiseBusError off).trace = s.trace := rfl
@[simp] theorem State.raiseBusError_resp (s : State) (off : Offset) : (s.raiseBusError off).resp = .busError off := rfl
@[simp] theorem State.raiseBusError_epoch (s : State) (off : Offset) : (s.raiseBusError off).epoch = s.epoch + 1 := rfl

@[simp] theorem State.assertReset_params (s : State)  : (s.assertReset).params = s.params := rfl
@[simp] theorem State.assertReset_block (s : State)  : (s.assertReset).block = .powerOn s.block.sensorOut := rfl
@[simp] theorem State.assertReset_trace (s : State)  : (s.assertReset).trace = s.trace := rfl
@[simp] theorem State.assertReset_resp (s : State)  : (s.assertReset).resp = s.resp := rfl
@[simp] theorem State.assertReset_epoch (s : State)  : (s.assertReset).epoch = s.epoch + 1 := rfl

/-! ## Updates of Block -/

@[simp] theorem Block.capture_cnt (b : Block) : (b.capture).cnt = b.cnt := rfl
@[simp] theorem Block.capture_capt (b : Block) : (b.capture).capt = b.cnt := rfl
@[simp] theorem Block.capture_pend (b : Block) : (b.capture).pend = true := rfl
@[simp] theorem Block.capture_pol (b : Block) : (b.capture).pol = b.pol := rfl
@[simp] theorem Block.capture_armed (b : Block) : (b.capture).armed = b.armed := rfl
@[simp] theorem Block.capture_prev (b : Block) : (b.capture).prev = b.prev := rfl
@[simp] theorem Block.capture_idx (b : Block) : (b.capture).idx = b.idx := rfl
@[simp] theorem Block.capture_buf (b : Block) : (b.capture).buf = b.buf := rfl
@[simp] theorem Block.capture_ovf (b : Block) : (b.capture).ovf = b.ovf := rfl
@[simp] theorem Block.capture_phase (b : Block) : (b.capture).phase = b.phase := rfl
@[simp] theorem Block.capture_pt (b : Block) : (b.capture).pt = b.pt := rfl
@[simp] theorem Block.capture_drive (b : Block) : (b.capture).drive = b.drive := rfl
@[simp] theorem Block.capture_sensorOut (b : Block) : (b.capture).sensorOut = b.sensorOut := rfl
@[simp] theorem Block.capture_hum (b : Block) : (b.capture).hum = b.hum := rfl
@[simp] theorem Block.capture_temp (b : Block) : (b.capture).temp = b.temp := rfl
@[simp] theorem Block.capture_valid (b : Block) : (b.capture).valid = b.valid := rfl
@[simp] theorem Block.capture_lastCause (b : Block) : (b.capture).lastCause = b.lastCause := rfl

@[simp] theorem Block.interruptEntry_cnt (b : Block) : (b.interruptEntry).cnt = b.cnt := rfl
@[simp] theorem Block.interruptEntry_capt (b : Block) : (b.interruptEntry).capt = b.capt := rfl
@[simp] theorem Block.interruptEntry_pend (b : Block) : (b.interruptEntry).pend = false := rfl
@[simp] theorem Block.interruptEntry_pol (b : Block) : (b.interruptEntry).pol = b.pol := rfl
@[simp] theorem Block.interruptEntry_armed (b : Block) : (b.interruptEntry).armed = b.armed := rfl
@[simp] theorem Block.interruptEntry_prev (b : Block) : (b.interruptEntry).prev = b.prev := rfl
@[simp] theorem Block.interruptEntry_idx (b : Block) : (b.interruptEntry).idx = b.idx := rfl
@[simp] theorem Block.interruptEntry_buf (b : Block) : (b.interruptEntry).buf = b.buf := rfl
@[simp] theorem Block.interruptEntry_ovf (b : Block) : (b.interruptEntry).ovf = b.ovf := rfl
@[simp] theorem Block.interruptEntry_phase (b : Block) : (b.interruptEntry).phase = b.phase := rfl
@[simp] theorem Block.interruptEntry_pt (b : Block) : (b.interruptEntry).pt = b.pt := rfl
@[simp] theorem Block.interruptEntry_drive (b : Block) : (b.interruptEntry).drive = b.drive := rfl
@[simp] theorem Block.interruptEntry_sensorOut (b : Block) : (b.interruptEntry).sensorOut = b.sensorOut := rfl
@[simp] theorem Block.interruptEntry_hum (b : Block) : (b.interruptEntry).hum = b.hum := rfl
@[simp] theorem Block.interruptEntry_temp (b : Block) : (b.interruptEntry).temp = b.temp := rfl
@[simp] theorem Block.interruptEntry_valid (b : Block) : (b.interruptEntry).valid = b.valid := rfl
@[simp] theorem Block.interruptEntry_lastCause (b : Block) : (b.interruptEntry).lastCause = b.lastCause := rfl

@[simp] theorem Block.cycleReset_cnt (b : Block) : (b.cycleReset).cnt = b.cnt := rfl
@[simp] theorem Block.cycleReset_capt (b : Block) : (b.cycleReset).capt = b.capt := rfl
@[simp] theorem Block.cycleReset_pend (b : Block) : (b.cycleReset).pend = false := rfl
@[simp] theorem Block.cycleReset_pol (b : Block) : (b.cycleReset).pol = .fall := rfl
@[simp] theorem Block.cycleReset_armed (b : Block) : (b.cycleReset).armed = b.armed := rfl
@[simp] theorem Block.cycleReset_prev (b : Block) : (b.cycleReset).prev = 0 := rfl
@[simp] theorem Block.cycleReset_idx (b : Block) : (b.cycleReset).idx = 0 := rfl
@[simp] theorem Block.cycleReset_buf (b : Block) : (b.cycleReset).buf = b.buf := rfl
@[simp] theorem Block.cycleReset_ovf (b : Block) : (b.cycleReset).ovf = false := rfl
@[simp] theorem Block.cycleReset_phase (b : Block) : (b.cycleReset).phase = .trig := rfl
@[simp] theorem Block.cycleReset_pt (b : Block) : (b.cycleReset).pt = 0 := rfl
@[simp] theorem Block.cycleReset_drive (b : Block) : (b.cycleReset).drive = b.drive := rfl
@[simp] theorem Block.cycleReset_sensorOut (b : Block) : (b.cycleReset).sensorOut = b.sensorOut := rfl
@[simp] theorem Block.cycleReset_hum (b : Block) : (b.cycleReset).hum = 0 := rfl
@[simp] theorem Block.cycleReset_temp (b : Block) : (b.cycleReset).temp = 0 := rfl
@[simp] theorem Block.cycleReset_valid (b : Block) : (b.cycleReset).valid = false := rfl
@[simp] theorem Block.cycleReset_lastCause (b : Block) : (b.cycleReset).lastCause = .none := rfl

@[simp] theorem Block.validResult_cnt (h t : Sample) (b : Block) : (b.validResult h t).cnt = b.cnt := rfl
@[simp] theorem Block.validResult_capt (h t : Sample) (b : Block) : (b.validResult h t).capt = b.capt := rfl
@[simp] theorem Block.validResult_pend (h t : Sample) (b : Block) : (b.validResult h t).pend = b.pend := rfl
@[simp] theorem Block.validResult_pol (h t : Sample) (b : Block) : (b.validResult h t).pol = b.pol := rfl
@[simp] theorem Block.validResult_armed (h t : Sample) (b : Block) : (b.validResult h t).armed = b.armed := rfl
@[simp] theorem Block.validResult_prev (h t : Sample) (b : Block) : (b.validResult h t).prev = b.prev := rfl
@[simp] theorem Block.validResult_idx (h t : Sample) (b : Block) : (b.validResult h t).idx = b.idx := rfl
@[simp] theorem Block.validResult_buf (h t : Sample) (b : Block) : (b.validResult h t).buf = b.buf := rfl
@[simp] theorem Block.validResult_ovf (h t : Sample) (b : Block) : (b.validResult h t).ovf = b.ovf := rfl
@[simp] theorem Block.validResult_phase (h t : Sample) (b : Block) : (b.validResult h t).phase = b.phase := rfl
@[simp] theorem Block.validResult_pt (h t : Sample) (b : Block) : (b.validResult h t).pt = b.pt := rfl
@[simp] theorem Block.validResult_drive (h t : Sample) (b : Block) : (b.validResult h t).drive = b.drive := rfl
@[simp] theorem Block.validResult_sensorOut (h t : Sample) (b : Block) : (b.validResult h t).sensorOut = b.sensorOut := rfl
@[simp] theorem Block.validResult_hum (h t : Sample) (b : Block) : (b.validResult h t).hum = h := rfl
@[simp] theorem Block.validResult_temp (h t : Sample) (b : Block) : (b.validResult h t).temp = t := rfl
@[simp] theorem Block.validResult_valid (h t : Sample) (b : Block) : (b.validResult h t).valid = true := rfl
@[simp] theorem Block.validResult_lastCause (h t : Sample) (b : Block) : (b.validResult h t).lastCause = .ok := rfl

@[simp] theorem Block.mismatchResult_cnt (b : Block) : (b.mismatchResult).cnt = b.cnt := rfl
@[simp] theorem Block.mismatchResult_capt (b : Block) : (b.mismatchResult).capt = b.capt := rfl
@[simp] theorem Block.mismatchResult_pend (b : Block) : (b.mismatchResult).pend = b.pend := rfl
@[simp] theorem Block.mismatchResult_pol (b : Block) : (b.mismatchResult).pol = b.pol := rfl
@[simp] theorem Block.mismatchResult_armed (b : Block) : (b.mismatchResult).armed = b.armed := rfl
@[simp] theorem Block.mismatchResult_prev (b : Block) : (b.mismatchResult).prev = b.prev := rfl
@[simp] theorem Block.mismatchResult_idx (b : Block) : (b.mismatchResult).idx = b.idx := rfl
@[simp] theorem Block.mismatchResult_buf (b : Block) : (b.mismatchResult).buf = b.buf := rfl
@[simp] theorem Block.mismatchResult_ovf (b : Block) : (b.mismatchResult).ovf = b.ovf := rfl
@[simp] theorem Block.mismatchResult_phase (b : Block) : (b.mismatchResult).phase = b.phase := rfl
@[simp] theorem Block.mismatchResult_pt (b : Block) : (b.mismatchResult).pt = b.pt := rfl
@[simp] theorem Block.mismatchResult_drive (b : Block) : (b.mismatchResult).drive = b.drive := rfl
@[simp] theorem Block.mismatchResult_sensorOut (b : Block) : (b.mismatchResult).sensorOut = b.sensorOut := rfl
@[simp] theorem Block.mismatchResult_hum (b : Block) : (b.mismatchResult).hum = 0 := rfl
@[simp] theorem Block.mismatchResult_temp (b : Block) : (b.mismatchResult).temp = 0 := rfl
@[simp] theorem Block.mismatchResult_valid (b : Block) : (b.mismatchResult).valid = false := rfl
@[simp] theorem Block.mismatchResult_lastCause (b : Block) : (b.mismatchResult).lastCause = .cksum := rfl

@[simp] theorem Block.truncatedResult_cnt (b : Block) : (b.truncatedResult).cnt = b.cnt := rfl
@[simp] theorem Block.truncatedResult_capt (b : Block) : (b.truncatedResult).capt = b.capt := rfl
@[simp] theorem Block.truncatedResult_pend (b : Block) : (b.truncatedResult).pend = b.pend := rfl
@[simp] theorem Block.truncatedResult_pol (b : Block) : (b.truncatedResult).pol = b.pol := rfl
@[simp] theorem Block.truncatedResult_armed (b : Block) : (b.truncatedResult).armed = b.armed := rfl
@[simp] theorem Block.truncatedResult_prev (b : Block) : (b.truncatedResult).prev = b.prev := rfl
@[simp] theorem Block.truncatedResult_idx (b : Block) : (b.truncatedResult).idx = b.idx := rfl
@[simp] theorem Block.truncatedResult_buf (b : Block) : (b.truncatedResult).buf = b.buf := rfl
@[simp] theorem Block.truncatedResult_ovf (b : Block) : (b.truncatedResult).ovf = b.ovf := rfl
@[simp] theorem Block.truncatedResult_phase (b : Block) : (b.truncatedResult).phase = b.phase := rfl
@[simp] theorem Block.truncatedResult_pt (b : Block) : (b.truncatedResult).pt = b.pt := rfl
@[simp] theorem Block.truncatedResult_drive (b : Block) : (b.truncatedResult).drive = b.drive := rfl
@[simp] theorem Block.truncatedResult_sensorOut (b : Block) : (b.truncatedResult).sensorOut = b.sensorOut := rfl
@[simp] theorem Block.truncatedResult_hum (b : Block) : (b.truncatedResult).hum = 0 := rfl
@[simp] theorem Block.truncatedResult_temp (b : Block) : (b.truncatedResult).temp = 0 := rfl
@[simp] theorem Block.truncatedResult_valid (b : Block) : (b.truncatedResult).valid = false := rfl
@[simp] theorem Block.truncatedResult_lastCause (b : Block) : (b.truncatedResult).lastCause = .trunc := rfl

/-! ## The edge detector touches CAPT and PEND only (R100) -/

@[simp] theorem Block.wireUpdate_cnt (old : Bool) (b : Block) : (b.wireUpdate old).cnt = b.cnt := by
  unfold Block.wireUpdate; split <;> rfl

@[simp] theorem Block.wireUpdate_pol (old : Bool) (b : Block) : (b.wireUpdate old).pol = b.pol := by
  unfold Block.wireUpdate; split <;> rfl

@[simp] theorem Block.wireUpdate_armed (old : Bool) (b : Block) : (b.wireUpdate old).armed = b.armed := by
  unfold Block.wireUpdate; split <;> rfl

@[simp] theorem Block.wireUpdate_prev (old : Bool) (b : Block) : (b.wireUpdate old).prev = b.prev := by
  unfold Block.wireUpdate; split <;> rfl

@[simp] theorem Block.wireUpdate_idx (old : Bool) (b : Block) : (b.wireUpdate old).idx = b.idx := by
  unfold Block.wireUpdate; split <;> rfl

@[simp] theorem Block.wireUpdate_buf (old : Bool) (b : Block) : (b.wireUpdate old).buf = b.buf := by
  unfold Block.wireUpdate; split <;> rfl

@[simp] theorem Block.wireUpdate_ovf (old : Bool) (b : Block) : (b.wireUpdate old).ovf = b.ovf := by
  unfold Block.wireUpdate; split <;> rfl

@[simp] theorem Block.wireUpdate_phase (old : Bool) (b : Block) : (b.wireUpdate old).phase = b.phase := by
  unfold Block.wireUpdate; split <;> rfl

@[simp] theorem Block.wireUpdate_pt (old : Bool) (b : Block) : (b.wireUpdate old).pt = b.pt := by
  unfold Block.wireUpdate; split <;> rfl

@[simp] theorem Block.wireUpdate_drive (old : Bool) (b : Block) : (b.wireUpdate old).drive = b.drive := by
  unfold Block.wireUpdate; split <;> rfl

@[simp] theorem Block.wireUpdate_sensorOut (old : Bool) (b : Block) : (b.wireUpdate old).sensorOut = b.sensorOut := by
  unfold Block.wireUpdate; split <;> rfl

@[simp] theorem Block.wireUpdate_hum (old : Bool) (b : Block) : (b.wireUpdate old).hum = b.hum := by
  unfold Block.wireUpdate; split <;> rfl

@[simp] theorem Block.wireUpdate_temp (old : Bool) (b : Block) : (b.wireUpdate old).temp = b.temp := by
  unfold Block.wireUpdate; split <;> rfl

@[simp] theorem Block.wireUpdate_valid (old : Bool) (b : Block) : (b.wireUpdate old).valid = b.valid := by
  unfold Block.wireUpdate; split <;> rfl

@[simp] theorem Block.wireUpdate_lastCause (old : Bool) (b : Block) : (b.wireUpdate old).lastCause = b.lastCause := by
  unfold Block.wireUpdate; split <;> rfl

/-! ## setDrive writes one driver, and CAPT and PEND through the detector -/

@[simp] theorem Block.setDrive_cnt (v : Bool) (b : Block) : (b.setDrive v).cnt = b.cnt := by simp [Block.setDrive]
@[simp] theorem Block.setDrive_pol (v : Bool) (b : Block) : (b.setDrive v).pol = b.pol := by simp [Block.setDrive]
@[simp] theorem Block.setDrive_armed (v : Bool) (b : Block) : (b.setDrive v).armed = b.armed := by simp [Block.setDrive]
@[simp] theorem Block.setDrive_prev (v : Bool) (b : Block) : (b.setDrive v).prev = b.prev := by simp [Block.setDrive]
@[simp] theorem Block.setDrive_idx (v : Bool) (b : Block) : (b.setDrive v).idx = b.idx := by simp [Block.setDrive]
@[simp] theorem Block.setDrive_buf (v : Bool) (b : Block) : (b.setDrive v).buf = b.buf := by simp [Block.setDrive]
@[simp] theorem Block.setDrive_ovf (v : Bool) (b : Block) : (b.setDrive v).ovf = b.ovf := by simp [Block.setDrive]
@[simp] theorem Block.setDrive_phase (v : Bool) (b : Block) : (b.setDrive v).phase = b.phase := by simp [Block.setDrive]
@[simp] theorem Block.setDrive_pt (v : Bool) (b : Block) : (b.setDrive v).pt = b.pt := by simp [Block.setDrive]
@[simp] theorem Block.setDrive_drive (v : Bool) (b : Block) : (b.setDrive v).drive = v := by simp [Block.setDrive]
@[simp] theorem Block.setDrive_sensorOut (v : Bool) (b : Block) : (b.setDrive v).sensorOut = b.sensorOut := by simp [Block.setDrive]
@[simp] theorem Block.setDrive_hum (v : Bool) (b : Block) : (b.setDrive v).hum = b.hum := by simp [Block.setDrive]
@[simp] theorem Block.setDrive_temp (v : Bool) (b : Block) : (b.setDrive v).temp = b.temp := by simp [Block.setDrive]
@[simp] theorem Block.setDrive_valid (v : Bool) (b : Block) : (b.setDrive v).valid = b.valid := by simp [Block.setDrive]
@[simp] theorem Block.setDrive_lastCause (v : Bool) (b : Block) : (b.setDrive v).lastCause = b.lastCause := by simp [Block.setDrive]

/-! ## setSensor writes one driver, and CAPT and PEND through the detector -/

@[simp] theorem Block.setSensor_cnt (v : Bool) (b : Block) : (b.setSensor v).cnt = b.cnt := by simp [Block.setSensor]
@[simp] theorem Block.setSensor_pol (v : Bool) (b : Block) : (b.setSensor v).pol = b.pol := by simp [Block.setSensor]
@[simp] theorem Block.setSensor_armed (v : Bool) (b : Block) : (b.setSensor v).armed = b.armed := by simp [Block.setSensor]
@[simp] theorem Block.setSensor_prev (v : Bool) (b : Block) : (b.setSensor v).prev = b.prev := by simp [Block.setSensor]
@[simp] theorem Block.setSensor_idx (v : Bool) (b : Block) : (b.setSensor v).idx = b.idx := by simp [Block.setSensor]
@[simp] theorem Block.setSensor_buf (v : Bool) (b : Block) : (b.setSensor v).buf = b.buf := by simp [Block.setSensor]
@[simp] theorem Block.setSensor_ovf (v : Bool) (b : Block) : (b.setSensor v).ovf = b.ovf := by simp [Block.setSensor]
@[simp] theorem Block.setSensor_phase (v : Bool) (b : Block) : (b.setSensor v).phase = b.phase := by simp [Block.setSensor]
@[simp] theorem Block.setSensor_pt (v : Bool) (b : Block) : (b.setSensor v).pt = b.pt := by simp [Block.setSensor]
@[simp] theorem Block.setSensor_drive (v : Bool) (b : Block) : (b.setSensor v).drive = b.drive := by simp [Block.setSensor]
@[simp] theorem Block.setSensor_sensorOut (v : Bool) (b : Block) : (b.setSensor v).sensorOut = v := by simp [Block.setSensor]
@[simp] theorem Block.setSensor_hum (v : Bool) (b : Block) : (b.setSensor v).hum = b.hum := by simp [Block.setSensor]
@[simp] theorem Block.setSensor_temp (v : Bool) (b : Block) : (b.setSensor v).temp = b.temp := by simp [Block.setSensor]
@[simp] theorem Block.setSensor_valid (v : Bool) (b : Block) : (b.setSensor v).valid = b.valid := by simp [Block.setSensor]
@[simp] theorem Block.setSensor_lastCause (v : Bool) (b : Block) : (b.setSensor v).lastCause = b.lastCause := by simp [Block.setSensor]

/-! ## Recording a sample writes BUF, IDX and OVF only (R105, R108) -/

@[simp] theorem Block.record_cnt (p : Params) (v : Sample) (b : Block) : (b.record p v).cnt = b.cnt := by
  unfold Block.record; split <;> rfl

@[simp] theorem Block.record_capt (p : Params) (v : Sample) (b : Block) : (b.record p v).capt = b.capt := by
  unfold Block.record; split <;> rfl

@[simp] theorem Block.record_pend (p : Params) (v : Sample) (b : Block) : (b.record p v).pend = b.pend := by
  unfold Block.record; split <;> rfl

@[simp] theorem Block.record_pol (p : Params) (v : Sample) (b : Block) : (b.record p v).pol = b.pol := by
  unfold Block.record; split <;> rfl

@[simp] theorem Block.record_armed (p : Params) (v : Sample) (b : Block) : (b.record p v).armed = b.armed := by
  unfold Block.record; split <;> rfl

@[simp] theorem Block.record_prev (p : Params) (v : Sample) (b : Block) : (b.record p v).prev = b.prev := by
  unfold Block.record; split <;> rfl

@[simp] theorem Block.record_phase (p : Params) (v : Sample) (b : Block) : (b.record p v).phase = b.phase := by
  unfold Block.record; split <;> rfl

@[simp] theorem Block.record_pt (p : Params) (v : Sample) (b : Block) : (b.record p v).pt = b.pt := by
  unfold Block.record; split <;> rfl

@[simp] theorem Block.record_drive (p : Params) (v : Sample) (b : Block) : (b.record p v).drive = b.drive := by
  unfold Block.record; split <;> rfl

@[simp] theorem Block.record_sensorOut (p : Params) (v : Sample) (b : Block) : (b.record p v).sensorOut = b.sensorOut := by
  unfold Block.record; split <;> rfl

@[simp] theorem Block.record_hum (p : Params) (v : Sample) (b : Block) : (b.record p v).hum = b.hum := by
  unfold Block.record; split <;> rfl

@[simp] theorem Block.record_temp (p : Params) (v : Sample) (b : Block) : (b.record p v).temp = b.temp := by
  unfold Block.record; split <;> rfl

@[simp] theorem Block.record_valid (p : Params) (v : Sample) (b : Block) : (b.record p v).valid = b.valid := by
  unfold Block.record; split <;> rfl

@[simp] theorem Block.record_lastCause (p : Params) (v : Sample) (b : Block) : (b.record p v).lastCause = b.lastCause := by
  unfold Block.record; split <;> rfl

/-! ## The power-on block (R240) -/

@[simp] theorem Block.powerOn_cnt (so : Bool) : (Block.powerOn so).cnt = 0 := rfl
@[simp] theorem Block.powerOn_capt (so : Bool) : (Block.powerOn so).capt = 0 := rfl
@[simp] theorem Block.powerOn_pend (so : Bool) : (Block.powerOn so).pend = false := rfl
@[simp] theorem Block.powerOn_pol (so : Bool) : (Block.powerOn so).pol = .fall := rfl
@[simp] theorem Block.powerOn_armed (so : Bool) : (Block.powerOn so).armed = false := rfl
@[simp] theorem Block.powerOn_prev (so : Bool) : (Block.powerOn so).prev = 0 := rfl
@[simp] theorem Block.powerOn_idx (so : Bool) : (Block.powerOn so).idx = 0 := rfl
@[simp] theorem Block.powerOn_buf (so : Bool) : (Block.powerOn so).buf = [] := rfl
@[simp] theorem Block.powerOn_ovf (so : Bool) : (Block.powerOn so).ovf = false := rfl
@[simp] theorem Block.powerOn_phase (so : Bool) : (Block.powerOn so).phase = .idle := rfl
@[simp] theorem Block.powerOn_pt (so : Bool) : (Block.powerOn so).pt = 0 := rfl
@[simp] theorem Block.powerOn_drive (so : Bool) : (Block.powerOn so).drive = false := rfl
@[simp] theorem Block.powerOn_sensorOut (so : Bool) : (Block.powerOn so).sensorOut = so := rfl
@[simp] theorem Block.powerOn_hum (so : Bool) : (Block.powerOn so).hum = 0 := rfl
@[simp] theorem Block.powerOn_temp (so : Bool) : (Block.powerOn so).temp = 0 := rfl
@[simp] theorem Block.powerOn_valid (so : Bool) : (Block.powerOn so).valid = false := rfl
@[simp] theorem Block.powerOn_lastCause (so : Bool) : (Block.powerOn so).lastCause = .none := rfl

end Sys2Proof.Machine
end

