-- ==== Sys2Proof/Laws/Ops.lean ====
section
/-! SUPPORT. What each shared operation does, said once: the buffer laws, the edge detector, the ways a step ends, the
phase timer, a tick, a service, a decode. -/

namespace Sys2Proof.Machine

/-! ## The buffer: read after write, and the canonical form -/

@[simp] theorem Buffer.read_write_same (b : Buffer) (i : Nat) (v : Sample) : (Buffer.write b i v).read i = some v := by
  induction b with
  | nil => simp [Buffer.write, Buffer.read]
  | cons x rest ih =>
    obtain ⟨j, w⟩ := x
    unfold Buffer.write
    split
    · simp [Buffer.read]
    · split
      · simp [Buffer.read]
      · simp_all [Buffer.read]

theorem Buffer.read_write_other (b : Buffer) (i j : Nat) (v : Sample) (h : j ≠ i) :
    (Buffer.write b i v).read j = b.read j := by
  induction b with
  | nil => simp [Buffer.write, Buffer.read, h]
  | cons x rest ih =>
    obtain ⟨k, w⟩ := x
    unfold Buffer.write
    split
    · simp [Buffer.read, h]
    · split
      · subst_vars; simp [Buffer.read, h]
      · simp [Buffer.read, ih]

theorem Buffer.wfFrom_mono {cap lo lo' : Nat} (b : Buffer) (h : lo ≤ lo') (hb : Buffer.wfFrom cap lo' b = true) :
    Buffer.wfFrom cap lo b = true := by
  cases b with
  | nil => rfl
  | cons x rest => simp [Buffer.wfFrom] at hb ⊢; exact ⟨⟨by omega, hb.1.2⟩, hb.2⟩

theorem Buffer.wfFrom_write {cap lo i : Nat} (b : Buffer) (v : Sample) (hi : lo ≤ i ∧ i < cap)
    (hb : Buffer.wfFrom cap lo b = true) : Buffer.wfFrom cap lo (Buffer.write b i v) = true := by
  induction b generalizing lo with
  | nil => simp [Buffer.write, Buffer.wfFrom, hi]
  | cons x rest ih =>
    obtain ⟨j, w⟩ := x
    simp only [Buffer.wfFrom, Bool.and_eq_true, decide_eq_true_eq] at hb
    unfold Buffer.write
    split
    · rename_i hlt
      simp only [Buffer.wfFrom, Bool.and_eq_true, decide_eq_true_eq]
      exact ⟨hi, ⟨by omega, hb.2⟩⟩
    · split
      · subst_vars
        simp only [Buffer.wfFrom, Bool.and_eq_true, decide_eq_true_eq]
        exact ⟨hi, hb.2⟩
      · simp only [Buffer.wfFrom, Bool.and_eq_true, decide_eq_true_eq]
        exact ⟨hb.1, ih (by omega) hb.2⟩

/-- Writing a slot below CAP keeps the canonical form. -/
theorem Buffer.wf_write {cap i : Nat} (b : Buffer) (v : Sample) (hi : i < cap) (hb : b.wf cap = true) :
    Buffer.wf cap (Buffer.write b i v) = true := Buffer.wfFrom_write b v ⟨Nat.zero_le _, hi⟩ hb

@[simp] theorem Buffer.wf_nil (cap : Nat) : Buffer.wf cap [] = true := rfl

/-! ## How a step ends -/

/-- An event that is held up by an owed service answers no next state; otherwise it answers its own. -/
theorem unlessOwed_eq_next {s n t : State} : unlessOwed s n = .next t ↔ s.serviceOwed = false ∧ n = t := by
  unfold unlessOwed
  split <;> simp_all

@[simp] theorem unlessOwed_of_not_owed {s : State} (n : State) (h : s.serviceOwed = false) :
    unlessOwed s n = .next n := by simp [unlessOwed, h]

@[simp] theorem unlessOwed_of_owed {s : State} (n : State) (h : s.serviceOwed = true) :
    unlessOwed s n = .refused .serviceOwed := by simp [unlessOwed, h]

/-! ## The edge detector -/

/-- WireUpdate in closed form (R100, R101). -/
theorem Block.wireUpdate_eq (old : Bool) (b : Block) :
    b.wireUpdate old = { b with
      capt := if b.wire != old && b.pol.selects b.wire then b.cnt else b.capt,
      pend := (b.wire != old && b.pol.selects b.wire) || b.pend } := by
  cases h : (b.wire != old && b.pol.selects b.wire) <;> simp [Block.wireUpdate, h, Block.capture]

@[simp] theorem Block.wireUpdate_wire (old : Bool) (b : Block) : (b.wireUpdate old).wire = b.wire := by
  simp [Block.wire]

/-- SENSOR_OUT <- 0 in closed form (R103). -/
theorem Block.setSensor_false_eq (b : Block) :
    b.setSensor false = { b with
      sensorOut := false,
      capt := if b.wire = true ∧ b.pol = .fall then b.cnt else b.capt,
      pend := if b.wire = true ∧ b.pol = .fall then true else b.pend } := by
  rw [Block.setSensor, Block.wireUpdate_eq]
  cases hw : b.wire <;> cases b.pol <;> simp [Block.wire, Polarity.selects]

/-- SENSOR_OUT <- 1 in closed form (R104). -/
theorem Block.setSensor_true_eq (b : Block) :
    b.setSensor true = { b with
      sensorOut := true,
      capt := if b.wire = false ∧ b.drive = false ∧ b.pol = .rise then b.cnt else b.capt,
      pend := if b.wire = false ∧ b.drive = false ∧ b.pol = .rise then true else b.pend } := by
  rw [Block.setSensor, Block.wireUpdate_eq]
  cases hw : b.wire <;> cases hp : b.pol <;> cases hd : b.drive <;> simp_all [Block.wire, Polarity.selects]

/-- DRIVE <- 1 in closed form (R131). -/
theorem Block.setDrive_true_eq (b : Block) :
    b.setDrive true = { b with
      drive := true,
      capt := if b.wire = true ∧ b.pol = .fall then b.cnt else b.capt,
      pend := if b.wire = true ∧ b.pol = .fall then true else b.pend } := by
  rw [Block.setDrive, Block.wireUpdate_eq]
  cases hw : b.wire <;> cases b.pol <;> simp [Block.wire, Polarity.selects]

/-- DRIVE <- 0 in closed form (R136). -/
theorem Block.setDrive_false_eq (b : Block) :
    b.setDrive false = { b with
      drive := false,
      capt := if b.sensorOut = true ∧ b.drive = true ∧ b.pol = .rise then b.cnt else b.capt,
      pend := if b.sensorOut = true ∧ b.drive = true ∧ b.pol = .rise then true else b.pend } := by
  rw [Block.setDrive, Block.wireUpdate_eq]
  cases hs : b.sensorOut <;> cases hp : b.pol <;> cases hd : b.drive <;> simp_all [Block.wire, Polarity.selects]

/-! ## Commands -/

/-- An accepted MEASURE in closed form (R131). -/
theorem Block.acceptMeasure_eq (b : Block) :
    b.acceptMeasure = { b with
      idx := 0, pend := b.wire, pol := .fall, prev := 0, ovf := false, valid := false, hum := 0, temp := 0,
      lastCause := .none, pt := 0, phase := .trig, drive := true,
      capt := if b.wire = true then b.cnt else b.capt } := by
  rw [Block.acceptMeasure, Block.setDrive_true_eq]
  have hw : b.cycleReset.wire = b.wire := rfl
  rw [hw]
  cases b.wire <;> simp [Block.cycleReset]

/-- A command leaves the block alone, or is a MEASURE accepted in IDLE or DONE (R131 to R134). -/
theorem Block.command_cases (cmd : BitVec 4) (b : Block) :
    (b.command cmd = b ∧ (cmd ≠ 1#4 ∨ b.busy = true)) ∨
      (b.command cmd = b.acceptMeasure ∧ cmd = 1#4 ∧ b.busy = false) := by
  unfold Block.command Block.measure
  split <;> [split; skip] <;> simp_all

/-! ## The phase timer and a tick -/

theorem timerSucc_eq {free pt : BitVec 32} (h : pt.toNat + 1 < 2 ^ 32) : timerSucc free pt = pt + 1 := by
  unfold timerSucc
  split
  · omega
  · rfl

theorem timerSucc_toNat {free pt : BitVec 32} (h : pt.toNat + 1 < 2 ^ 32) :
    (timerSucc free pt).toNat = pt.toNat + 1 := by
  rw [timerSucc_eq h, BitVec.toNat_add]
  simp
  omega

/-- What a tick can do (R102, R135 to R138): count only; count in TRIG or WINDOW; end the trigger; end the window. -/
theorem Block.tick_cases (p : Params) (free : Nat → Sample) (freePt : BitVec 32) (b : Block) :
    (b.busy = false ∧ b.tick p free freePt = { b with cnt := b.cnt + 1 }) ∨
    (b.phase = .trig ∧ (timerSucc freePt b.pt).toNat ≠ p.trigTicks ∧
      b.tick p free freePt = { b with cnt := b.cnt + 1, pt := timerSucc freePt b.pt }) ∨
    (b.phase = .trig ∧ (timerSucc freePt b.pt).toNat = p.trigTicks ∧
      b.tick p free freePt =
        { b with cnt := b.cnt + 1, armed := true, phase := .window, pt := 0 }.setDrive false) ∨
    (b.phase = .window ∧ (timerSucc freePt b.pt).toNat ≠ p.winTicks ∧
      b.tick p free freePt = { b with cnt := b.cnt + 1, pt := timerSucc freePt b.pt }) ∨
    (b.phase = .window ∧ (timerSucc freePt b.pt).toNat = p.winTicks ∧
      b.tick p free freePt =
        { { b with cnt := b.cnt + 1, armed := false, pt := timerSucc freePt b.pt }.decodeFrame p free with
          phase := .done, pt := 0 }) := by
  unfold Block.tick Block.phaseTick
  cases hp : b.phase with
  | idle => left; simp [Block.busy, hp]
  | done => left; simp [Block.busy, hp]
  | trig =>
    by_cases h : (timerSucc freePt b.pt).toNat = p.trigTicks
    · right; right; left; simp [Block.trigTick, Block.trigExpire, h]
    · right; left; simp [Block.trigTick, h]
  | window =>
    by_cases h : (timerSucc freePt b.pt).toNat = p.winTicks
    · right; right; right; right; simp [Block.windowTick, Block.windowExpire, h]
    · right; right; right; left; simp [Block.windowTick, h]

/-! ## The decode -/

/-- What a decode can do (R160): truncated, matched, mismatched. -/
theorem Block.decodeFrame_cases (p : Params) (free : Nat → Sample) (b : Block) :
    (b.idx.toNat < nreq ∧ b.decodeFrame p free = b.truncatedResult) ∨
    (nreq ≤ b.idx.toNat ∧
      b.decodeFrame p free =
        { b with idx := b.idx - 40 }.validResult (frameHum p (b.slotValue free) b.idx.toNat)
          (frameTemp p (b.slotValue free) b.idx.toNat) ∧
      sum8 (frameHum p (b.slotValue free) b.idx.toNat) (frameTemp p (b.slotValue free) b.idx.toNat) =
        frameChecksum p (b.slotValue free) b.idx.toNat) ∨
    (nreq ≤ b.idx.toNat ∧ b.decodeFrame p free = { b with idx := b.idx - 40 }.mismatchResult ∧
      sum8 (frameHum p (b.slotValue free) b.idx.toNat) (frameTemp p (b.slotValue free) b.idx.toNat) ≠
        frameChecksum p (b.slotValue free) b.idx.toNat) := by
  unfold Block.decodeFrame admits
  by_cases hn : nreq ≤ b.idx.toNat
  · by_cases hs : sum8 (frameHum p (b.slotValue free) b.idx.toNat) (frameTemp p (b.slotValue free) b.idx.toNat) =
      frameChecksum p (b.slotValue free) b.idx.toNat
    · right; left; simp [hn, hs]
    · right; right; simp [hn, hs]
  · left; simp only [hn, decide_false]; exact ⟨by omega, rfl⟩

theorem fieldSum_lt (bits : Nat → Bool) (w : Nat) : fieldSum bits w < 2 ^ w := by
  induction w with
  | zero => simp [fieldSum]
  | succ w ih =>
    have hb : (bits w).toNat ≤ 1 := Bool.toNat_le _
    have : (bits w).toNat * 2 ^ w ≤ 2 ^ w := by nlinarith [Nat.two_pow_pos w]
    simp only [fieldSum, Nat.pow_succ]
    omega

theorem fieldSum_testBit (bits : Nat → Bool) (w k : Nat) : (fieldSum bits w).testBit k = (decide (k < w) && bits k) := by
  induction w with
  | zero => simp [fieldSum]
  | succ w ih =>
    have hlt := fieldSum_lt bits w
    rw [fieldSum, Nat.add_comm, Nat.mul_comm, Nat.testBit_two_pow_mul_add _ hlt]
    split
    · rename_i h; rw [ih]; simp [h, Nat.lt_succ_of_lt h]
    · rename_i h
      rcases Nat.eq_or_lt_of_le (Nat.not_lt.mp h) with rfl | hk
      · cases bits w <;> simp
      · have h1 : ¬ k < w + 1 := by omega
        obtain ⟨m, hm⟩ : ∃ m, k - w = m + 1 := ⟨k - w - 1, by omega⟩
        rw [hm]
        cases bits w <;> simp [h1, Nat.testBit_succ]

theorem field_getLsbD (p : Params) (slot : Nat → Sample) (n off w k : Nat) :
    (field p slot n off w).getLsbD k = (decide (k < w) && sampleBit p (slot (n - 1 - off - k))) := by
  simp only [field, BitVec.getLsbD_ofNat, fieldSum_testBit]
  by_cases h : k < w <;> simp [h]

/-! ## A service -/

/-- What a service does (R105, R108): no sample; a sample; a dropped sample. -/
theorem Block.service_cases (p : Params) (b : Block) :
    (b.wire = true ∧ b.service p = { b with pend := false, pol := .fall, prev := b.capt }) ∨
    (b.wire = false ∧ b.idx.toNat < p.cap ∧
      b.service p = { b with pend := false, pol := .rise, prev := b.capt, idx := b.idx + 1,
                             buf := b.buf.write b.idx.toNat (b.capt - b.prev) }) ∨
    (b.wire = false ∧ p.cap ≤ b.idx.toNat ∧
      b.service p = { b with pend := false, pol := .rise, prev := b.capt, ovf := true }) := by
  have hw : b.interruptEntry.wire = b.wire := rfl
  unfold Block.service Block.serviceBody
  rw [hw]
  by_cases h : b.wire = true
  · left; simp [h, Block.interruptEntry]
  · simp only [Bool.not_eq_true] at h
    right
    by_cases hi : b.idx.toNat < p.cap
    · left; simp [h, hi, Block.record, Block.interruptEntry, interval]
    · right; exact ⟨h, by omega, by simp [h, hi, Block.record, Block.interruptEntry]⟩

/-! ## One step -/

/-- The one step lemma: the event at the head of the schedule, decoded, is run with the schedule moved past it. -/
theorem step_of_trace {s : State} {ev : Event} {rest : List Event} {i : Instr} (h : s.trace = ev :: rest)
    (hd : decodeEvent ev = .ok i) : step s = exec i { s with trace := rest } := by
  simp [step, State.fetch, h, runEvent, hd]

/-- Every step that answers a next state ran the instruction that the event at the head of the schedule names. -/
theorem step_eq_next {s t : State} (h : step s = .next t) :
    ∃ ev rest i, s.trace = ev :: rest ∧ decodeEvent ev = .ok i ∧ exec i { s with trace := rest } = .next t := by
  unfold step State.fetch at h
  cases ht : s.trace with
  | nil => simp [ht] at h
  | cons ev rest =>
    simp only [ht, runEvent] at h
    cases hd : decodeEvent ev with
    | error e => simp [hd] at h
    | ok i => rw [hd] at h; exact ⟨ev, rest, i, rfl, hd, h⟩

@[simp] theorem Label.event_evt (code : BitVec 4) (req : Option BusReq) : (Label.evt code req).event = ⟨code, req⟩ := rfl

/-- A step labelled BUS_READ or BUS_WRITE carries its request. -/
@[simp] theorem decodeEvent_busReq (r : BusReq) :
    decodeEvent r.event = .ok (match r.access with
      | .read => .busRead r.off r.size
      | .write data => .busWrite r.off r.size data) := by
  obtain ⟨off, size, access⟩ := r
  cases access <;> rfl

/-- What an instruction can do when it answers a next state: a register read, a bus error, a write without effect, an
accepted MEASURE, a tick, a sensor event, a service. Every rule over all instructions is a case analysis of this. -/
theorem exec_cases {i : Instr} {s t : State} (h : exec i s = .next t) :
    (s.serviceOwed = false ∧ i.isHostRead = true ∧ i.isMeasure = false ∧ ∃ v, t = s.finishRead v) ∨
    (s.serviceOwed = false ∧ i.isMeasure = false ∧ i ≠ .tick ∧ i ≠ .service ∧ i ≠ .sensorLow ∧ i ≠ .sensorRelease ∧
      ((∃ off, t = s.raiseBusError off) ∨ t = s.finishWrite s.block)) ∨
    (s.serviceOwed = false ∧ i.isMeasure = true ∧ s.block.busy = true ∧ t = s.finishWrite s.block) ∨
    (s.serviceOwed = false ∧ i.isMeasure = true ∧ s.block.busy = false ∧ t = s.finishWrite s.block.acceptMeasure) ∨
    (s.serviceOwed = false ∧ i = .tick ∧ t = s.complete (s.block.tick s.params s.freeSlots s.freeTimer)) ∨
    (s.serviceOwed = false ∧ i = .sensorLow ∧ t = s.complete (s.block.setSensor false)) ∨
    (s.serviceOwed = false ∧ i = .sensorRelease ∧ t = s.complete (s.block.setSensor true)) ∨
    (s.block.serviceEnabled = true ∧ i = .service ∧ t = s.complete (s.block.service s.params)) := by
  have cmd : ∀ {c : BitVec 4} {m : Bool}, (m = true ↔ c = 1#4) →
      unlessOwed s (s.finishWrite (s.block.command c)) = .next t → s.serviceOwed = false ∧
        ((m = false ∧ t = s.finishWrite s.block) ∨
          (m = true ∧ s.block.busy = true ∧ t = s.finishWrite s.block) ∨
          (m = true ∧ s.block.busy = false ∧ t = s.finishWrite s.block.acceptMeasure)) := by
    intro c m hm hu
    obtain ⟨ho, rfl⟩ := unlessOwed_eq_next.1 hu
    refine ⟨ho, ?_⟩
    rcases Block.command_cases c s.block with ⟨hc, hb⟩ | ⟨hc, hb, hbusy⟩
    · rw [hc]
      cases hmm : m
      · simp
      · simp_all
    · rw [hc]
      simp_all
  cases i with
  | tick => obtain ⟨ho, rfl⟩ := unlessOwed_eq_next.1 h; simp [ho]
  | sensorLow => obtain ⟨ho, rfl⟩ := unlessOwed_eq_next.1 h; simp [ho]
  | sensorRelease => obtain ⟨ho, rfl⟩ := unlessOwed_eq_next.1 h; simp [ho]
  | service =>
    simp only [exec, execService] at h
    split at h
    · cases h; simp_all
    · cases h
  | evtReserved code => cases h
  | nop rsvd =>
    have := cmd (m := false) (by simp) h
    simp_all [Instr.isMeasure]
  | measure rsvd =>
    have := cmd (m := true) (by simp) h
    simp_all [Instr.isMeasure]
  | cmdReserved c r => obtain ⟨ho, rfl⟩ := unlessOwed_eq_next.1 h; simp [ho, Instr.isMeasure]
  | wrCtrl data =>
    have := cmd (m := Instr.isMeasure (.wrCtrl data)) (by simp [Instr.isMeasure]) h
    rcases this with ⟨ho, h1 | h1 | h1⟩ <;> simp [ho, h1]
  | wrIgnored off data => obtain ⟨ho, rfl⟩ := unlessOwed_eq_next.1 h; simp [ho, Instr.isMeasure]
  | busErr off size access =>
    obtain ⟨ho, rfl⟩ := unlessOwed_eq_next.1 h
    exact .inr (.inl ⟨ho, rfl, by simp, by simp, by simp, by simp, .inl ⟨off, rfl⟩⟩)
  | busRead off size =>
    simp only [exec, execBusRead] at h
    split at h
    · obtain ⟨ho, rfl⟩ := unlessOwed_eq_next.1 h
      exact .inr (.inl ⟨ho, rfl, by simp, by simp, by simp, by simp, .inl ⟨off, rfl⟩⟩)
    · obtain ⟨ho, rfl⟩ := unlessOwed_eq_next.1 h
      exact .inl ⟨ho, rfl, rfl, _, rfl⟩
  | busWrite off size data =>
    simp only [exec, execBusWrite] at h
    split at h
    · rename_i hill
      obtain ⟨ho, rfl⟩ := unlessOwed_eq_next.1 h
      refine .inr (.inl ⟨ho, ?_, by simp, by simp, by simp, by simp, .inl ⟨off, rfl⟩⟩)
      simp only [Instr.isMeasure]
      by_contra hc
      simp only [Bool.not_eq_false, Bool.and_eq_true, beq_iff_eq] at hc
      obtain ⟨⟨rfl, rfl⟩, -⟩ := hc
      simp [accessIllegal, offLow] at hill
    · rename_i hill
      split at h
      · rename_i hoff
        have := cmd (m := Instr.isMeasure (.busWrite off size data))
          (by simp_all [Instr.isMeasure, accessIllegal]) h
        rcases this with ⟨ho, h1 | h1 | h1⟩ <;> simp [ho, h1]
      · obtain ⟨ho, rfl⟩ := unlessOwed_eq_next.1 h
        rename_i hoff
        exact .inr (.inl ⟨ho, by simp [Instr.isMeasure, hoff], by simp, by simp, by simp, by simp, .inr rfl⟩)
  | _ => obtain ⟨ho, rfl⟩ := unlessOwed_eq_next.1 h; exact .inl ⟨ho, rfl, rfl, _, rfl⟩

end Sys2Proof.Machine
end

