-- ==== Sys2Proof/Laws/PerInstr.lean ====
section
/-! SUPPORT. Per-instruction facts about the syntax. Family EncodedForm: an instruction is encoded in the form that its
row of opcode_table.json gives as its "format" (30_encoding R80). -/

namespace Sys2Proof.Laws.EncodedForm

/-- The label of `i` is written in the form of `i`'s row. -/
def Statement (i : Instr) : Prop := (encode i).form = i.form

theorem nop (rsvd : BitVec 28) : Statement (.nop rsvd) := rfl
theorem measure (rsvd : BitVec 28) : Statement (.measure rsvd) := rfl
theorem cmdReserved (cmd : BitVec 4) (rsvd : BitVec 28) : Statement (.cmdReserved cmd rsvd) := rfl
theorem rdCtrl : Statement .rdCtrl := rfl
theorem rdStatus : Statement .rdStatus := rfl
theorem rdHum : Statement .rdHum := rfl
theorem rdTemp : Statement .rdTemp := rfl
theorem rdIdx : Statement .rdIdx := rfl
theorem rdPrev : Statement .rdPrev := rfl
theorem rdCapt : Statement .rdCapt := rfl
theorem rdCfg : Statement .rdCfg := rfl
theorem rdCnt : Statement .rdCnt := rfl
theorem rdBuf (i : BitVec 6) : Statement (.rdBuf i) := rfl
theorem rdReserved (off : Offset) : Statement (.rdReserved off) := rfl
theorem wrCtrl (data : Word) : Statement (.wrCtrl data) := rfl
theorem wrIgnored (off : Offset) (data : Word) : Statement (.wrIgnored off data) := rfl
theorem busErr (off : Offset) (size : Nat) (access : Access) : Statement (.busErr off size access) := rfl
theorem tick : Statement .tick := rfl
theorem sensorLow : Statement .sensorLow := rfl
theorem sensorRelease : Statement .sensorRelease := rfl
theorem service : Statement .service := rfl
theorem busRead (off : Offset) (size : Nat) : Statement (.busRead off size) := rfl
theorem busWrite (off : Offset) (size : Nat) (data : Word) : Statement (.busWrite off size data) := rfl
theorem evtReserved (code : BitVec 4) : Statement (.evtReserved code) := rfl

end Sys2Proof.Laws.EncodedForm
end

