-- ==== Sys2Proof/Tests/Slice0.lean ====
section
/-! SUPPORT. Tests of the model, with every expected value from spec/ (95_test_vectors unless said otherwise), and for
every obligation with hypotheses a witness that meets them. -/

namespace Sys2Proof.Tests

open Sys2Proof Sys2Proof.Machine

/-! ## Helpers -/

/-- What the host got back, if the step answers a next state. -/
def respOf : Result → Option Response
  | .next t => some t.resp
  | .fault _ => none
  | .refused _ => none

/-- One view of the block after a step, if the step answers a next state. -/
def after {α : Type} (view : Block → α) : Result → Option α
  | .next t => some (view t.block)
  | .fault _ => none
  | .refused _ => none

/-- The block at power-on with the sensor idle (V-S1, V-B1). -/
def powered : Block := .powerOn true

/-- A machine with the default parameters, the given block and nothing scheduled. -/
def at_ (b : Block) : State := { State.reset with block := b }

/-- A machine where no service is owed at once (SVC_PROMPT = false). -/
def lazy (b : Block) : State := { at_ b with params := { svcPrompt := false } }

/-- Consecutive slots from slot `i` on. -/
def slots : Nat → List Sample → Buffer
  | _, [] => []
  | i, v :: rest => (i, v) :: slots (i + 1) rest

/-- `n` samples, 70 at the places of `long` and 27 elsewhere, as the decode vectors V-D1 to V-D9 give them. -/
def train (n : Nat) (long : List Nat) : Buffer :=
  slots 0 ((List.range n).map fun j => if j ∈ long then 70 else 27)

/-- The samples of program P1 at the end of FRAME. -/
def p1Buffer : Buffer :=
  slots 0 ([10030, 80] ++ [27, 27, 27, 27, 27, 27, 70, 27, 70, 27, 27, 27, 70, 70, 27, 27] ++
    [27, 27, 27, 27, 27, 27, 27, 70, 27, 70, 27, 70, 70, 70, 70, 70] ++ [70, 70, 70, 27, 70, 70, 70, 27])

/-- An open window one tick before its end with the given buffer. -/
def closing (n : BitVec 7) (buf : Buffer) : Block :=
  { powered with phase := .window, armed := true, pt := 1999999, idx := n, buf := buf }

/-- A pending capture in an open window (V-R1 to V-R6). -/
def pending (capt prev : Sample) (idx : BitVec 7) (sensorOut : Bool) : Block :=
  { powered with phase := .window, armed := true, pend := true, capt := capt, prev := prev, idx := idx,
                 sensorOut := sensorOut }

/-- The results of a decode. -/
def results (b : Block) : Bool × Sample × Sample × BitVec 7 × Cause := (b.valid, b.hum, b.temp, b.idx, b.lastCause)

/-- What a service writes. -/
def serviced (b : Block) : Buffer × BitVec 7 × Sample × Polarity × Bool × Bool :=
  (b.buf, b.idx, b.prev, b.pol, b.pend, b.ovf)

/-! ## Well-formedness: each check refuses an ill-formed term -/

theorem test_wf_cmdReserved : (Instr.cmdReserved 1#4 0).wellFormed 60 = false := by decide
theorem test_wf_cmdReserved_low : (Instr.cmdReserved 2#4 0).wellFormed 60 = true := by decide
theorem test_wf_rdBuf : (Instr.rdBuf 60#6).wellFormed 60 = false := by decide
theorem test_wf_rdReserved_register : (Instr.rdReserved 0x020#9).wellFormed 60 = false := by decide
theorem test_wf_rdReserved_slot : (Instr.rdReserved 0x1EC#9).wellFormed 60 = false := by decide
theorem test_wf_rdReserved_misaligned : (Instr.rdReserved 0x026#9).wellFormed 60 = false := by decide
theorem test_wf_wrIgnored_ctrl : (Instr.wrIgnored 0#9 0).wellFormed 60 = false := by decide
theorem test_wf_wrIgnored_misaligned : (Instr.wrIgnored 0x006#9 0).wellFormed 60 = false := by decide
theorem test_wf_busErr_legal : (Instr.busErr 0x004#9 4 .read).wellFormed 60 = false := by decide
theorem test_wf_evtReserved : (Instr.evtReserved 5#4).wellFormed 60 = false := by decide

/-! ## Decoding: a word of every row, written out from R81 to R85 -/

theorem test_decode_nop : decodeCmdw 0x00000000#32 = .nop 0 := by decide
theorem test_decode_measure : decodeCmdw 0x00000011#32 = .measure 1#28 := by decide
theorem test_decode_cmdReserved : decodeCmdw 0x00000002#32 = .cmdReserved 2#4 0 := by decide
theorem test_decode_cmdReserved_top : decodeCmdw 0xABCDE01F#32 = .cmdReserved 0xF#4 0xABCDE01#28 := by decide
theorem test_decode_rdCtrl : decodeBusReq 60 ⟨0b000000000#9, 4, .read⟩ = .rdCtrl := by decide
theorem test_decode_rdStatus : decodeBusReq 60 ⟨0b000000100#9, 4, .read⟩ = .rdStatus := by decide
theorem test_decode_rdHum : decodeBusReq 60 ⟨0b000001000#9, 4, .read⟩ = .rdHum := by decide
theorem test_decode_rdTemp : decodeBusReq 60 ⟨0b000001100#9, 4, .read⟩ = .rdTemp := by decide
theorem test_decode_rdIdx : decodeBusReq 60 ⟨0b000010000#9, 4, .read⟩ = .rdIdx := by decide
theorem test_decode_rdPrev : decodeBusReq 60 ⟨0b000010100#9, 4, .read⟩ = .rdPrev := by decide
theorem test_decode_rdCapt : decodeBusReq 60 ⟨0b000011000#9, 4, .read⟩ = .rdCapt := by decide
theorem test_decode_rdCfg : decodeBusReq 60 ⟨0b000011100#9, 4, .read⟩ = .rdCfg := by decide
theorem test_decode_rdCnt : decodeBusReq 60 ⟨0b000100000#9, 4, .read⟩ = .rdCnt := by decide
theorem test_decode_rdBuf : decodeBusReq 60 ⟨0b100000100#9, 4, .read⟩ = .rdBuf 1#6 := by decide
theorem test_decode_rdBuf_last : decodeBusReq 60 ⟨0x1EC#9, 4, .read⟩ = .rdBuf 59#6 := by decide
theorem test_decode_rdReserved : decodeBusReq 60 ⟨0x024#9, 4, .read⟩ = .rdReserved 0x024#9 := by decide
theorem test_decode_rdReserved_slot : decodeBusReq 60 ⟨0x1F0#9, 4, .read⟩ = .rdReserved 0x1F0#9 := by decide
theorem test_decode_wrCtrl : decodeBusReq 60 ⟨0x000#9, 4, .write 0xFFFFFFF1#32⟩ = .wrCtrl 0xFFFFFFF1#32 := by decide
theorem test_decode_wrIgnored :
    decodeBusReq 60 ⟨0x008#9, 4, .write 0x12345678#32⟩ = .wrIgnored 0x008#9 0x12345678#32 := by decide
theorem test_decode_wrIgnored_slot :
    decodeBusReq 60 ⟨0x100#9, 4, .write 1#32⟩ = .wrIgnored 0x100#9 1#32 := by decide
theorem test_decode_busErr_size : decodeBusReq 60 ⟨0x004#9, 2, .read⟩ = .busErr 0x004#9 2 .read := by decide
theorem test_decode_busErr_offset : decodeBusReq 60 ⟨0x006#9, 4, .read⟩ = .busErr 0x006#9 4 .read := by decide
theorem test_decode_busErr_write :
    decodeBusReq 60 ⟨0x000#9, 1, .write 1#32⟩ = .busErr 0x000#9 1 (.write 1#32) := by decide
theorem test_decode_tick : decodeEvt 0x0#4 none = .ok .tick := rfl
theorem test_decode_sensorLow : decodeEvt 0x1#4 none = .ok .sensorLow := rfl
theorem test_decode_sensorRelease : decodeEvt 0x2#4 none = .ok .sensorRelease := rfl
theorem test_decode_service : decodeEvt 0x3#4 none = .ok .service := rfl
theorem test_decode_busRead :
    decodeEvt 0x4#4 (some ⟨0x004#9, 4, .read⟩) = .ok (.busRead 0x004#9 4) := rfl
theorem test_decode_busWrite :
    decodeEvt 0x5#4 (some ⟨0x000#9, 4, .write 1#32⟩) = .ok (.busWrite 0x000#9 4 1#32) := rfl
theorem test_decode_evtReserved : decodeEvt 0x6#4 none = .ok (.evtReserved 0x6#4) := rfl
theorem test_decode_evtReserved_top : decodeEvt 0xF#4 none = .ok (.evtReserved 0xF#4) := rfl

/-- R85: BUS_READ needs its BUSREQ, with DIR = 0, and TICK has no operand. -/
theorem test_decode_malformed :
    decodeEvt 0x4#4 none = .error .requestMissing ∧
    decodeEvt 0x4#4 (some ⟨0#9, 4, .write 0#32⟩) = .error .wrongDirection ∧
    decodeEvt 0x5#4 (some ⟨0#9, 4, .read⟩) = .error .wrongDirection ∧
    decodeEvt 0x0#4 (some ⟨0#9, 4, .read⟩) = .error .unexpectedRequest := ⟨rfl, rfl, rfl, rfl⟩

/-- The table words of opcode_table.json: EVT in 4 bits, BUSREQ in 9, CMDW in 32 (log 2). -/
theorem test_decodeTableWord :
    decodeTableWord 8 0x3 = some .service ∧ decodeTableWord 8 0x4 = some (.busRead 0#9 4) ∧
    decodeTableWord 16 0x01C = some .rdCfg ∧ decodeTableWord 32 0x00000001 = some (.measure 0) := by decide

/-- step runs the placed word as the first instruction after reset. -/
theorem test_withFetchWord : step (State.reset.withFetchWord 32 0x00000001) = exec (.measure 0) State.reset := rfl

/-- A schedule that is used up is the fault of its name (log 1). -/
theorem test_noEvent : step State.reset = .fault .noEvent := rfl

/-- The host's own view of the machine. -/
theorem test_core : core.step core.reset = .fault .noEvent := rfl

/-! ## The recorder (95 section 2.1) -/

/-- V-R1, V-R2, V-S8: the line low, the line high, and the trigger's own edge. -/
theorem test_service_branches :
    after serviced (exec .service (at_ (pending 170 100 5 false))) = some ([(5, 70)], 6, 170, .rise, false, false) ∧
    after serviced (exec .service (at_ (pending 170 100 5 true))) = some ([], 5, 170, .fall, false, false) ∧
    after (fun b => (b.status, b.prev, b.idx)) (exec .service (at_ (pending 0 0 0 true))) =
      some (0x00000446#32, 0, 0) := ⟨by decide, by decide, by decide⟩

/-- V-R5 (the document's wrap-around interval), V-R6 (a full buffer). -/
theorem test_service_corners :
    after serviced (exec .service (at_ (pending 40 65500 3 false))) = some ([(3, 76)], 4, 40, .rise, false, false) ∧
    after serviced (exec .service (at_ (pending 900 880 60 false))) = some ([], 60, 900, .rise, false, true) :=
  ⟨by decide, by decide⟩

/-- V-R12, V-R13: SERVICE is not enabled while ARMED = 0; an owed service holds up a tick. -/
theorem test_enabling :
    exec .service (at_ { powered with pend := true, capt := 5 }) = .refused .serviceNotEnabled ∧
    exec .tick (at_ (pending 170 100 5 false)) = .refused .serviceOwed := ⟨rfl, rfl⟩

/-- V-R8, V-R14: a falling edge; none while the block drives the line. -/
theorem test_sensorLow :
    after (fun b => (b.wire, b.capt, b.pend)) (exec .sensorLow (at_ { powered with cnt := 10100 })) =
      some (false, 10100, true) ∧
    after (fun b => (b.wire, b.pend)) (exec .sensorLow (at_ { powered with phase := .trig, drive := true })) =
      some (false, false) := by decide

/-- V-R9: a rising edge does not match POL = FALL. -/
theorem test_sensorRelease_no_match :
    after (fun b => (b.wire, b.capt, b.pend))
      (exec .sensorRelease (lazy { powered with cnt := 10101, sensorOut := false, pend := true, capt := 10100 })) =
      some (true, 10100, true) := by decide

/-- R104, the matching case: POL = RISE. -/
theorem test_sensorRelease_captures :
    after (fun b => (b.capt, b.pend))
      (exec .sensorRelease (at_ { powered with cnt := 77, sensorOut := false, pol := .rise })) =
      some (77, true) := by decide

/-! ## The sequencer (95 section 2.2) -/

/-- V-R7, V-S6: CNT wraps; PT counts in TRIG. -/
theorem test_tick_counts :
    after (·.cnt) (exec .tick (at_ { powered with cnt := 65535 })) = some 0 ∧
    after (fun b => (b.pt, b.phase)) (exec .tick (at_ { powered with phase := .trig, drive := true, pt := 9998 })) =
      some (9999, .trig) := by decide

/-- V-S7, V-S10: the end of the trigger, and the end of a window without samples. -/
theorem test_tick_ends_phases :
    after (fun b => (b.status, b.cnt, b.capt, b.pt))
      (exec .tick (at_ { powered with phase := .trig, drive := true, pend := true, pt := 9999, cnt := 9999 })) =
      some (0x00000546#32, 10000, 0, 0) ∧
    after (fun b => (b.status, b.cnt, b.lastCause)) (exec .tick (at_ { closing 0 [] with cnt := 43919 })) =
      some (0x0000040B#32, 43920, .trunc) := by decide

/-- V-S1, V-S5, V-S12: from power-on; CMDW[31:4] is ignored; a line already low makes no edge and PEND stays cleared. -/
theorem test_measure_accepted :
    after (fun b => (b.status, b.capt, b.pt)) (exec (.busWrite 0#9 4 1#32) (at_ powered)) =
      some (0x00000305#32, 0, 0) ∧
    after (fun b => b.status) (exec (.measure 0xFFFFFFF#28) (at_ powered)) = some 0x00000305#32 ∧
    after (fun b => (b.status, b.capt))
      (exec (.wrCtrl 1#32) (at_ { powered with cnt := 8, sensorOut := false, pend := true, capt := 5 })) =
      some (0x00000205#32, 5) := by decide

/-- V-S2. -/
theorem test_measure_busy :
    after (fun b => (b.status, b.pt, b.capt))
      (exec (.measure 0)
        (at_ { powered with phase := .trig, drive := true, pend := true, cnt := 5, pt := 5 })) =
      some (0x00000305#32, 5, 0) := by decide

/-- V-S3, V-S4. -/
theorem test_commands_without_effect :
    after (fun b => b) (exec (.nop 0) (at_ powered)) = some powered ∧
    after (fun b => b) (exec (.cmdReserved 0xF#4 0) (at_ powered)) = some powered := by decide

/-! ## The decoder (95 section 2.3 and L1-2) -/

/-- L1-2 and the table above Sum8. -/
theorem test_sampleBit :
    [0, 27, 39, 40, 41, 70, 65535].map (sampleBit {}) = [false, false, false, false, true, true, true] ∧
      sampleBit { thresh := 0 } 1 = true := by decide

/-- The Sum8 table. -/
theorem test_sum8 :
    sum8 0x028C#16 0x015F#16 = 0xEE#8 ∧ sum8 0x028D#16 0x015F#16 = 0xEF#8 ∧ sum8 0xFFFF#16 0xFFFF#16 = 0xFC#8 ∧
      sum8 0x0100#16 0#16 = 0x01#8 ∧ sum8 0x8080#16 0x8080#16 = 0#8 := by decide

/-- V-D1. -/
theorem test_decode_39 :
    results ((closing 39 (train 39 [])).decodeFrame {} fun _ => 0) = (false, 0, 0, 39, .trunc) := by decide

/-- V-D5: sample 15 is humidity bit 0. -/
theorem test_decode_hum_bit0 :
    results ((closing 40 (train 40 [15, 39])).decodeFrame {} fun _ => 0) = (true, 1, 0, 0, .ok) := by decide

/-- V-D7: sample 31 is temperature bit 0. -/
theorem test_decode_temp_bit0 :
    results ((closing 40 (train 40 [31, 39])).decodeFrame {} fun _ => 0) = (true, 0, 1, 0, .ok) := by decide

/-- V-D4: sample 0 is humidity bit 15. -/
theorem test_decode_mismatch :
    results ((closing 40 (train 40 [0])).decodeFrame {} fun _ => 0) = (false, 0, 0, 0, .cksum) := by decide

/-- V-D10, the frame of P1. -/
theorem test_decode_p1 :
    results ((closing 42 p1Buffer).decodeFrame {} fun _ => 0) = (true, 0x028C#16, 0x015F#16, 2, .ok) := by decide

/-! ## Bus accesses (95 section 2.4) -/

/-- V-B1. -/
theorem test_read_status : respOf (exec (.busRead 0x004#9 4) State.reset) = some (.data 0x00000400#32) := by decide

/-- V-B3. -/
theorem test_read_cfg : respOf (exec (.busRead 0x01C#9 4) State.reset) = some (.data 0x0028003C#32) := by decide

/-- V-B4, V-B5. -/
theorem test_read_reserved :
    respOf (exec (.busRead 0x1F0#9 4) State.reset) = some (.data 0) ∧
      respOf (exec (.busRead 0x024#9 4) State.reset) = some (.data 0) := by decide

/-- V-B6, V-B7: the host gets an error, the block stays as it was. -/
theorem test_busErr :
    respOf (exec (.busRead 0x004#9 2) State.reset) = some (.busError 0x004#9) ∧
      respOf (exec (.busRead 0x006#9 4) State.reset) = some (.busError 0x006#9) := by decide

/-- V-B8: a one-byte write does not run MEASURE. -/
theorem test_busErr_write :
    after (·.phase) (exec (.busWrite 0#9 1 1#32) State.reset) = some .idle := by decide

/-- V-B9. -/
theorem test_write_ignored :
    after (·.hum) (exec (.busWrite 0x008#9 4 0x12345678#32) (at_ { powered with hum := 5 })) = some 5 := by decide

/-- V-B10, V-B11: the registers at the end of P1. -/
theorem test_read_p1 :
    (([0x008#9, 0x00C#9, 0x014#9, 0x020#9, 0x100#9, 0x010#9].map fun off =>
      readReg {} (Config.freeSlot 0)
        { powered with phase := .done, hum := 0x028C#16, temp := 0x015F#16, prev := 14051, cnt := 43920, idx := 2,
                       buf := p1Buffer } off) =
      [0x0000028C#32, 0x0000015F#32, 0x000036E3#32, 0x0000AB90#32, 0x0000272E#32, 0x00000002#32]) := by decide

/-- V-B12: a slot that was never written reads a free value, and the read completes. -/
theorem test_read_unwritten :
    exec (.rdBuf 0#6) State.reset = .next { State.reset with resp := .data (zext32 (Config.freeSlot 0 0)) } := rfl

/-- 20_memory R63: the byte lanes of a register. -/
theorem test_byteLane : byteLane 0x12345678#32 0 = 0x78#8 ∧ byteLane 0x12345678#32 3 = 0x12#8 := by decide

/-- 00_scope R6: CAP = 39 is outside its range. -/
theorem test_construct_refuses :
    State.construct { cap := 39 } true = .refused .parametersOutOfRange := rfl

/-- 41_sequencer R143: with a trigger and a window of one tick each and a silent sensor, measure() polls twice and reports
failure with both values 0, whether or not ticks and sensor events come between the reads. -/
theorem test_measureCall :
    ([([], []), ([⟨0#4, none⟩, ⟨1#4, none⟩], [⟨0#4, none⟩])] : List (List Event × List Event)).map (fun gaps =>
      (measureCall [[⟨0#4, none⟩, ⟨3#4, none⟩], [⟨0#4, none⟩]] gaps.1 gaps.2
        { State.reset with params := { tickUs := 10000, trigTicks := 1, winTicks := 1 } }).map (·.1)) =
      [some (true, 0, 0), some (true, 0, 0)] := by decide

/-- 30_encoding R90: PULSE lo, hi. -/
theorem test_pulse :
    pulse 1 2 = [⟨1#4, none⟩, ⟨3#4, none⟩, ⟨0#4, none⟩, ⟨2#4, none⟩, ⟨3#4, none⟩, ⟨0#4, none⟩, ⟨0#4, none⟩] := by decide

/-! ## Witnesses: a state and operands that meet the hypotheses of each obligation, each clause at a boundary -/

/-- A block that drives the line low, `pt` ticks after MEASURE at CNT = 0 (V-S1). -/
def driving (pt : BitVec 32) : Block :=
  { powered with phase := .trig, drive := true, pend := true, pt := pt, cnt := pt.setWidth 16 }

/-- A block whose cycle ended without a response (V-S10), with the slots `buf` left by an earlier cycle. -/
def finished (buf : Buffer) : Block := { powered with phase := .done, lastCause := .trunc, capt := 9, buf := buf }

theorem driving_inv : (at_ (driving 9999)).Inv := ⟨by decide, by constructor <;> decide⟩

theorem finished7_inv : (at_ (finished [(59, 7)])).Inv := ⟨by decide, by constructor <;> decide⟩

theorem finished8_inv : (at_ (finished [(59, 8)])).Inv := ⟨by decide, by constructor <;> decide⟩

theorem powered_inv : (at_ powered).Inv := ⟨by decide, by constructor <;> decide⟩

theorem closing_inv : (at_ (closing 40 (train 40 [15, 39]))).Inv := ⟨by decide, by constructor <;> decide⟩

theorem pending_inv : (at_ { pending 70 0 1 true with buf := [(0, 5)] }).Inv := ⟨by decide, by constructor <;> decide⟩

theorem witness_DecodeOfEncodeIsTheInstruction :
    ([.cmdReserved 2#4 0, .cmdReserved 0xF#4 0xFFFFFFF#28, .rdBuf 0#6, .rdBuf 59#6, .rdReserved 0x024#9,
      .rdReserved 0x0FC#9, .rdReserved 0x1F0#9, .rdReserved 0x1FC#9, .wrIgnored 0x004#9 1, .wrIgnored 0x1FC#9 1,
      .busErr 0x000#9 0 .read, .busErr 0x1FF#9 4 (.write 7), .evtReserved 6#4, .evtReserved 15#4] : List Instr).all
        (Instr.wellFormed 60) = true := by decide

theorem witness_EncodeOfDecodeIsTheLabel :
    decode 60 (.busreq ⟨0x1EC#9, 4, .read⟩) = .ok (.rdBuf 59#6) ∧ decode 60 (.evt 6#4 none) = .ok (.evtReserved 6#4) :=
  ⟨rfl, rfl⟩

theorem witness_StepRunsTheDecodedInstruction :
    (State.reset.schedule ⟨0#4, none⟩).trace = ⟨0#4, none⟩ :: [] ∧
      decodeEvt 0#4 none = .ok .tick := ⟨rfl, rfl⟩

theorem witness_ReservedEventIsRefused :
    6 ≤ (6#4).toNat ∧ (State.reset.schedule ⟨6#4, none⟩).trace = ⟨6#4, none⟩ :: [] := ⟨by decide, rfl⟩

theorem witness_PromptServiceHold :
    (let s := at_ (pending 1 0 0 true)
     s.params.svcPrompt = true ∧ s.block.armed = true ∧ s.block.pend = true ∧ Instr.tick.isEvent = true) ∧
    (let s := lazy (pending 1 0 0 true)
     ¬(s.params.svcPrompt = true ∧ s.block.armed = true ∧ s.block.pend = true)) ∧
    (let s := at_ (driving 0); ¬(s.block.armed = true ∧ s.block.pend = true)) := by decide

theorem witness_TickOutsideACycleOnlyCounts :
    (State.reset.serviceOwed = false ∧ State.reset.block.phase = .idle) ∧
    ((at_ (finished [])).serviceOwed = false ∧ (at_ (finished [])).block.phase = .done) := by decide

/-- Below TRIG_TICKS, at it, and at the top of PT. -/
theorem witness_TickInTheTrigger :
    [9998, 9999, 0xFFFFFFFF].all (fun pt =>
      let s := at_ (driving pt); s.serviceOwed == false && s.block.phase == .trig) = true ∧
    (driving 9998).pt + 1 ≠ 10000 ∧ (driving 9999).pt + 1 = 10000 := by decide

theorem witness_TickInTheWindow :
    (let s := at_ { closing 0 [] with pt := 1999998 }
     s.serviceOwed = false ∧ s.block.phase = .window ∧ (s.block.pt + 1).toNat ≠ s.params.winTicks) ∧
    (let s := at_ (closing 0 [])
     s.serviceOwed = false ∧ s.block.phase = .window ∧ (s.block.pt + 1).toNat = s.params.winTicks) := by decide

theorem witness_WindowEndsTruncated :
    let s := at_ (closing 39 (train 39 []))
    s.serviceOwed = false ∧ s.block.phase = .window ∧ s.block.pt.toNat + 1 = s.params.winTicks ∧
      s.params.winTicks < 2 ^ 32 ∧ s.block.idx.toNat < 40 := by decide

/-- With 40 samples that match (V-D5), and 40 that do not (V-D4). -/
theorem witness_WindowEndsDecoded :
    [[15, 39], [0]].all (fun long =>
      let s := at_ (closing 40 (train 40 long))
      s.serviceOwed == false && s.block.phase == .window && decide (s.block.pt.toNat + 1 = s.params.winTicks) &&
        decide (s.params.winTicks < 2 ^ 32) && decide (40 ≤ s.block.idx.toNat) &&
        s.block.buf.read (s.block.idx.toNat - 1 - 7) == some 27 &&
        s.block.buf.read (s.block.idx.toNat - 9 - 15) == some 27 &&
        (s.block.buf.read (s.block.idx.toNat - 25 - 15)).isSome) = true := by decide

/-- The frame of P1. -/
theorem witness_CorrectFrameIsReported :
    let s := at_ (closing 42 p1Buffer)
    let h := 0x028C#16
    let t := 0x015F#16
    s.serviceOwed = false ∧ s.block.phase = .window ∧ s.block.pt.toNat + 1 = s.params.winTicks ∧
    s.params.winTicks < 2 ^ 32 ∧ 40 ≤ s.block.idx.toNat ∧
    (∀ k, k < 8 → ∃ v, s.block.buf.read (s.block.idx.toNat - 1 - k) = some v ∧
      decide (s.params.thresh.toNat < v.toNat) =
        (h.toNat % 256 + h.toNat / 256 + t.toNat % 256 + t.toNat / 256).testBit k) ∧
    (∀ k, k < 16 → ∃ v, s.block.buf.read (s.block.idx.toNat - 9 - k) = some v ∧
      decide (s.params.thresh.toNat < v.toNat) = t.getLsbD k) ∧
    (∀ k, k < 16 → ∃ v, s.block.buf.read (s.block.idx.toNat - 25 - k) = some v ∧
      decide (s.params.thresh.toNat < v.toNat) = h.getLsbD k) := by
  refine ⟨by decide, by decide, by decide, by decide, by decide, ?_, ?_, ?_⟩ <;>
    (intro k hk; interval_cases k <;> exact ⟨_, rfl, by decide⟩)

theorem witness_AllShortTrainPasses :
    let s := at_ (closing 40 (train 40 []))
    s.serviceOwed = false ∧ s.block.phase = .window ∧ s.block.pt.toNat + 1 = s.params.winTicks ∧
    s.params.winTicks < 2 ^ 32 ∧ 40 ≤ s.block.idx.toNat ∧
    (∀ j, s.block.idx.toNat - 40 ≤ j → j < s.block.idx.toNat →
      ∃ v, s.block.buf.read j = some v ∧ v.toNat ≤ s.params.thresh.toNat) := by
  refine ⟨by decide, by decide, by decide, by decide, by decide, ?_⟩
  intro j _ (hj : j < 40)
  interval_cases j <;> exact ⟨27, rfl, by decide⟩

/-- Pop 7 of an 8-bit field and pop 15 of a 16-bit one. -/
theorem witness_FieldsPopFromTheEnd : 7 < 8 ∧ 15 < 16 := by decide

theorem witness_ThresholdIsStrict : ({} : Params).thresh = 40 := by decide

theorem witness_SingleBitFlipBreaksTheChecksum : 0 < 16 ∧ 15 < 16 := by decide

/-- Slots that differ below n - 40 only. -/
theorem witness_DecodeReadsOnlyTheLastForty :
    (40 ≤ 42 ∧ ∀ j, 42 - 40 ≤ j → j < 42 →
      (fun j : Nat => if j < 2 then (1 : Sample) else 27) j = (fun _ : Nat => (27 : Sample)) j) ∧
    (closing 40 (train 40 [15, 39])).Inv {} := by
  refine ⟨⟨by decide, fun j hj _ => ?_⟩, closing_inv.block_inv⟩
  simp only
  rw [if_neg (by omega)]

theorem witness_FailuresLookAlike :
    (0x00C#9 ≠ 0x010#9 ∧ offLow 0x00C#9 = 0) ∧ (0x1FC#9 ≠ 0x010#9 ∧ offLow 0x1FC#9 = 0) := by decide

theorem witness_SensorLowPullsTheLine : State.reset.serviceOwed = false := by decide

theorem witness_SensorReleaseFreesTheLine : (at_ (driving 0)).serviceOwed = false := by decide

/-- The line high; the line low with the last free slot; the line low with none. -/
theorem witness_ServiceHandlesTheCapture :
    (let s := at_ (pending 1 0 0 true); s.block.armed = true ∧ s.block.pend = true ∧ s.block.wire = true) ∧
    (let s := at_ (pending 1 0 59 false)
     s.block.armed = true ∧ s.block.pend = true ∧ s.block.wire = false ∧ s.block.idx.toNat < s.params.cap) ∧
    (let s := at_ (pending 1 0 60 false)
     s.block.armed = true ∧ s.block.pend = true ∧ s.block.wire = false ∧ s.params.cap ≤ s.block.idx.toNat) := by decide

theorem witness_ServiceIsTheRecorder :
    let s := at_ (pending 130 100 0 false)
    s.block.armed = true ∧ s.block.pend = true ∧ (s.block.wire = false ↔ s.block.pol = .fall) ∧
      (recorder s.block.pol s.block.capt s.block.prev s.block.wire s.block.idx).2.2 = some 30 ∧
      (recorder .rise 130 100 true 0).2.2 = none := by decide

/-- A falling edge in the window that POL selects. -/
theorem witness_PromptServiceSeesItsOwnEdge :
    let s := at_ (closing 0 [])
    s.params.svcPrompt = true ∧ s.block.armed = true ∧ s.serviceOwed = false ∧
      ∃ t, exec .sensorLow s = .next t ∧ t.block.armed = true ∧ t.block.pend = true :=
  ⟨by decide, by decide, by decide, _, rfl, by decide, by decide⟩

theorem witness_TriggerEdgeRecordsNoSample :
    let s := at_ (driving 9999)
    s.Inv ∧ s.block.phase = .trig ∧ s.block.pt.toNat + 1 = s.params.trigTicks ∧ s.params.trigTicks < 2 ^ 32 ∧
      s.block.sensorOut = true ∧ s.block.pend = true :=
  ⟨driving_inv, by decide, by decide, by decide, by decide, by decide⟩

theorem witness_MeasureStartsACycle :
    ([.measure 0xFFFFFFF#28, .wrCtrl 0x11#32, .busWrite 0#9 4 1#32] : List Instr).all Instr.isMeasure = true ∧
    (State.reset.serviceOwed = false ∧ State.reset.block.phase = .idle) ∧
    ((at_ (finished [])).serviceOwed = false ∧ (at_ (finished [])).block.phase = .done) := by decide

theorem witness_MeasureIsIgnoredWhileBusy :
    (Instr.measure 0).isMeasure = true ∧
    ((at_ (driving 0)).serviceOwed = false ∧ (at_ (driving 0)).block.phase = .trig) ∧
    ((at_ (closing 0 [])).serviceOwed = false ∧ (at_ (closing 0 [])).block.phase = .window) := by decide

theorem witness_NopHasNoEffect :
    ([.nop 0xFFFFFFF#28, .wrCtrl 0x10#32, .busWrite 0#9 4 0#32] : List Instr).all Instr.isNop = true ∧
      (at_ (closing 0 [])).serviceOwed = false := by decide

theorem witness_ReservedCommandHasNoEffect :
    ([.cmdReserved 2#4 0, .wrCtrl 0x2#32, .wrCtrl 0xF#32, .busWrite 0#9 4 0xF#32] : List Instr).all
      Instr.isReservedCommand = true ∧ (at_ (closing 0 [])).serviceOwed = false := by decide

theorem witness_ReadsReturnTheirRegister : (at_ (closing 0 [])).serviceOwed = false := by decide

theorem witness_CfgShowsTheParameters :
    State.reset.serviceOwed = false ∧ State.reset.params.cap < 256 := by decide

theorem witness_StatusShowsTheFlags : (at_ (driving 0)).serviceOwed = false := by decide

/-- The last slot, written and never written. -/
theorem witness_BufReadsReturnTheSlot :
    (let s := at_ (finished [(59, 7)])
     s.serviceOwed = false ∧ (59#6).toNat < s.params.cap ∧ s.block.buf.read (59#6).toNat = some 7) ∧
    (State.reset.serviceOwed = false ∧ (59#6).toNat < State.reset.params.cap) := by decide

theorem witness_ReservedOffsetsReadZero :
    State.reset.serviceOwed = false ∧ State.reset.params.cap ≤ (60#6).toNat ∧ State.reset.params.cap ≤ (63#6).toNat ∧
      [0x024#9, 0x0FC#9, 0x1F0#9, 0x1FC#9].all (Offset.isReserved State.reset.params.cap) = true := by decide

theorem witness_OtherWritesAreIgnored :
    State.reset.serviceOwed = false ∧ ((0x004#9).toNat % 4 = 0 ∧ 0x004#9 ≠ 0) ∧
      ((0x1FC#9).toNat % 4 = 0 ∧ 0x1FC#9 ≠ 0) := by decide

theorem witness_BusErrorChangesNoState :
    State.reset.serviceOwed = false ∧ (2 ≠ 4 ∨ (0x004#9).toNat % 4 ≠ 0) ∧ (4 ≠ 4 ∨ (0x1FF#9).toNat % 4 ≠ 0) := by
  decide

theorem witness_ReadsChangeNoState :
    (∃ t, Instr.rdCapt.isHostRead = true ∧ exec .rdCapt (at_ (driving 0)) = .next t ∧
      Instr.rdCapt.isBusError = false) ∧
    (∃ t, (Instr.busErr 2#9 4 .read).isHostRead = true ∧ exec (.busErr 2#9 4 .read) State.reset = .next t) :=
  ⟨⟨_, by decide, rfl, by decide⟩, ⟨_, by decide, rfl⟩⟩

theorem witness_OnlyMeasureWritesHaveAnEffect :
    ∃ t, (Instr.busWrite 0x008#9 4 1).isHostWrite = true ∧ (Instr.busWrite 0x008#9 4 1).isMeasure = false ∧
      exec (.busWrite 0x008#9 4 1) State.reset = .next t := ⟨_, by decide, by decide, rfl⟩

/-- All four arrows. -/
theorem witness_PhaseMovesOnlyAlongItsArrows :
    (∃ t, exec (.measure 0) State.reset = .next t ∧ t.block.phase ≠ State.reset.block.phase) ∧
    (∃ t, exec (.measure 0) (at_ (finished [])) = .next t ∧ t.block.phase ≠ (at_ (finished [])).block.phase) ∧
    (∃ t, exec .tick (at_ (driving 9999)) = .next t ∧ t.block.phase ≠ (at_ (driving 9999)).block.phase) ∧
    (∃ t, exec .tick (at_ (closing 0 [])) = .next t ∧ t.block.phase ≠ (at_ (closing 0 [])).block.phase) :=
  ⟨⟨_, rfl, by decide⟩, ⟨_, rfl, by decide⟩, ⟨_, rfl, by decide⟩, ⟨_, rfl, by decide⟩⟩

theorem witness_CounterCountsTicksOnly :
    (∃ t, exec .tick State.reset = .next t) ∧ (∃ t, exec .sensorLow State.reset = .next t) :=
  ⟨⟨_, rfl⟩, ⟨_, rfl⟩⟩

/-- The last free slot. -/
theorem witness_SlotsAreWrittenByServiceOnly :
    ∃ t, exec .service (at_ (pending 1 0 59 false)) = .next t ∧
      t.block.buf.read 59 ≠ (at_ (pending 1 0 59 false)).block.buf.read 59 := ⟨_, rfl, by decide⟩

theorem witness_RecorderElementsHaveTheirWriters :
    (∃ t, exec .sensorLow (at_ { powered with cnt := 5 }) = .next t ∧ t.block.capt ≠ powered.capt) ∧
    (∃ t, exec .service (at_ (pending 9 0 60 false)) = .next t ∧ t.block.pend = false ∧
      t.block.pol ≠ (pending 9 0 60 false).pol ∧ t.block.prev ≠ (pending 9 0 60 false).prev ∧
      t.block.ovf ≠ (pending 9 0 60 false).ovf) ∧
    (∃ t, exec .tick (at_ (closing 40 (train 40 []))) = .next t ∧ t.block.idx ≠ 40) :=
  ⟨⟨_, rfl, by decide⟩, ⟨_, rfl, by decide, by decide, by decide, by decide⟩, ⟨_, rfl, by decide⟩⟩

theorem witness_SequencerElementsHaveTheirWriters :
    (∃ t, exec .tick (at_ (driving 9999)) = .next t ∧ t.block.armed ≠ (driving 9999).armed ∧
      t.block.pt ≠ (driving 9999).pt ∧ t.block.drive ≠ (driving 9999).drive) ∧
    (∃ t, exec .sensorLow State.reset = .next t ∧ t.block.sensorOut ≠ State.reset.block.sensorOut) ∧
    (∃ t, exec .tick (at_ (closing 40 (train 40 [15, 39]))) = .next t ∧ t.block.hum ≠ 0 ∧ t.block.valid ≠ false) :=
  ⟨⟨_, rfl, by decide, by decide, by decide⟩, ⟨_, rfl, by decide⟩, ⟨_, rfl, by decide, by decide⟩⟩

theorem witness_RunningCycleCannotBeEnded :
    (∃ t, exec (.measure 0) (at_ (driving 9999)) = .next t ∧ (at_ (driving 9999)).block.phase = .trig) ∧
    (∃ t, exec .sensorLow (at_ (closing 0 [])) = .next t ∧ (at_ (closing 0 [])).block.phase = .window) :=
  ⟨⟨_, rfl, by decide⟩, ⟨_, rfl, by decide⟩⟩

theorem witness_DoneHoldsTheResults :
    let s := at_ (finished [(59, 7)])
    s.Inv ∧ s.block.phase = .done ∧ Instr.sensorLow.isMeasure = false ∧ ∃ t, exec .sensorLow s = .next t :=
  ⟨finished7_inv, by decide, by decide, _, rfl⟩

/-- A service, a MEASURE and the end of a window. -/
theorem witness_OwnershipIsByPhase :
    (∃ t, (at_ { pending 70 0 1 true with buf := [(0, 5)] }).Inv ∧
      exec .service (at_ { pending 70 0 1 true with buf := [(0, 5)] }) = .next t ∧ t.block.prev ≠ 0) ∧
    (∃ t, (at_ (finished [(59, 7)])).Inv ∧ exec (.measure 0) (at_ (finished [(59, 7)])) = .next t) ∧
    (∃ t, (at_ (closing 40 (train 40 [15, 39]))).Inv ∧
      exec .tick (at_ (closing 40 (train 40 [15, 39]))) = .next t ∧ t.block.phase = .done) :=
  ⟨⟨_, pending_inv, rfl, by decide⟩, ⟨_, finished7_inv, rfl⟩, ⟨_, closing_inv, rfl, by decide⟩⟩

theorem witness_ResultsReadZeroWhileBusy :
    ((at_ (driving 9999)).Inv ∧ (at_ (driving 9999)).block.phase = .trig ∧
      (at_ (driving 9999)).serviceOwed = false) ∧
    ((at_ (closing 40 (train 40 [15, 39]))).Inv ∧ (at_ (closing 40 (train 40 [15, 39]))).block.phase = .window) :=
  ⟨⟨driving_inv, by decide, by decide⟩, ⟨closing_inv, by decide⟩⟩

/-- Every condition of R210 is met by some step that completes. -/
theorem witness_ConditionsAreRecordedAsListed :
    (conditionOf .tick (at_ (closing 40 (train 40 [15, 39]))) = some .ok ∧
      conditionOf .tick (at_ (closing 39 (train 39 []))) = some .trunc ∧
      conditionOf .tick (at_ (closing 40 (train 40 [0]))) = some .cksum ∧
      conditionOf .service (at_ (pending 1 0 60 false)) = some .overflow ∧
      conditionOf (.busRead 2#9 4) State.reset = some .busErr ∧
      conditionOf .sensorLow (at_ { powered with pend := true }) = some .lostCap ∧
      conditionOf (.measure 0) (at_ (driving 0)) = some .cmdIgnored) ∧
    (∃ t, exec .tick (at_ (closing 39 (train 39 []))) = .next t) ∧
    (∃ t, exec .service (at_ (pending 1 0 60 false)) = .next t) ∧ (∃ t, exec (.busRead 2#9 4) State.reset = .next t) ∧
    (∃ t, exec .sensorLow (at_ { powered with pend := true }) = .next t) ∧
    (∃ t, exec (.measure 0) (at_ (driving 0)) = .next t) :=
  ⟨by decide, ⟨_, rfl⟩, ⟨_, rfl⟩, ⟨_, rfl⟩, ⟨_, rfl⟩, ⟨_, rfl⟩⟩

theorem witness_StepKeepsTheInvariant :
    ∃ t, ((at_ (driving 9999)).schedule ⟨0#4, none⟩).Inv ∧
      step ((at_ (driving 9999)).schedule ⟨0#4, none⟩) = .next t :=
  ⟨_, ⟨driving_inv.params_ok, driving_inv.block_inv⟩, rfl⟩

/-- The defaults and the ends of R6's ranges. -/
theorem witness_PowerOnMeetsTheInvariant :
    ({} : Params).ok = true ∧
      ({ cap := 40, trigTicks := 1, tickUs := 10000, winTicks := 1, base := 0x200 } : Params).ok = true ∧
      ({ cap := 64, thresh := 0xFFFF#16, winTicks := 2 ^ 32 - 1 } : Params).ok = true := by decide

theorem witness_ParametersAreCheckedAndConstant :
    ∃ t, step (State.reset.schedule ⟨0#4, none⟩) = .next t := ⟨_, rfl⟩

/-- A fresh machine and one whose earlier cycle left a slot and a capture behind. -/
theorem witness_MeasureForgetsEarlierCycles :
    let s := at_ powered
    let t := at_ (finished [(59, 7)])
    s.Inv ∧ t.Inv ∧ (Instr.measure 0).isMeasure = true ∧ s.block.busy = false ∧ t.block.busy = false ∧
      s.params = t.params ∧ s.trace = t.trace ∧ s.block.cnt = t.block.cnt ∧ s.block.sensorOut = t.block.sensorOut :=
  ⟨powered_inv, finished7_inv, by decide, by decide, by decide, rfl, rfl, rfl, rfl⟩

/-- The same cycle with different slots left behind by earlier ones. -/
theorem witness_CycleAgreementIsKept :
    let s := (at_ (finished [(59, 7)])).schedule ⟨0#4, none⟩
    let t := (at_ (finished [(59, 8)])).schedule ⟨0#4, none⟩
    s.Inv ∧ t.Inv ∧ s.Agree t ∧ s.params.trigTicks < 2 ^ 32 ∧ ∃ s', step s = .next s' := by
  refine ⟨⟨finished7_inv.params_ok, finished7_inv.block_inv⟩, ⟨finished8_inv.params_ok, finished8_inv.block_inv⟩,
    ⟨rfl, rfl, ?_⟩, by decide, _, rfl⟩
  constructor <;> first | rfl | decide

/-- No tick, and all of TRIG_TICKS. -/
theorem witness_TriggerLastsItsTicks :
    let s := at_ powered
    s.Inv ∧ s.block.busy = false ∧ (Instr.measure 0).isMeasure = true ∧ s.params.trigTicks < 2 ^ 32 ∧
      0 ≤ s.params.trigTicks ∧ 10000 ≤ s.params.trigTicks :=
  ⟨powered_inv, by decide, by decide, by decide, by decide, by decide⟩

/-- The last tick of the window, and none. -/
theorem witness_WindowLastsItsTicks :
    let s := at_ (closing 40 (train 40 [15, 39]))
    s.Inv ∧ s.block.phase = .window ∧ s.block.pend = false ∧ s.block.pt.toNat + 0 ≤ s.params.winTicks ∧
      s.block.pt.toNat + 1 = s.params.winTicks :=
  ⟨closing_inv, by decide, by decide, by decide, by decide⟩

/-- A CMDW and a BUSREQ, each in its event. -/
theorem witness_EveryRowRunsAsItsEvent :
    ((State.reset.schedule (Label.cmdw 1).event).trace = (Label.cmdw 1).event :: [] ∧
      decode State.reset.params.cap (.cmdw 1) = .ok (.measure 0)) ∧
    ((State.reset.schedule (Label.busreq ⟨0x1EC#9, 4, .read⟩).event).trace =
        (Label.busreq ⟨0x1EC#9, 4, .read⟩).event :: [] ∧
      decode State.reset.params.cap (.busreq ⟨0x1EC#9, 4, .read⟩) = .ok (.rdBuf 59#6)) :=
  ⟨⟨rfl, rfl⟩, ⟨rfl, rfl⟩⟩

end Sys2Proof.Tests
end

section
/-! The scope of the model (00_scope): one event per step (R11), and parameters that are checked once and then kept
(R6). -/

namespace Sys2Proof

/-- The check of D35 passes exactly on the parameter sets inside R6's constraints. -/
theorem Params.ok_iff (p : Params) :
    p.ok = true ↔ 40 ≤ p.cap ∧ p.cap ≤ 64 ∧ 0 < p.tickUs ∧ 1 ≤ p.trigTicks ∧ 10000 ≤ p.trigTicks * p.tickUs ∧
      1 ≤ p.winTicks ∧ p.winTicks ≤ 2 ^ 32 - 1 ∧ p.base % windowBytes = 0 :=
  decide_eq_true_iff

end Sys2Proof

namespace Sys2Proof.Machine

/-! ## One event per step (R11) -/

/-- Settles O4: `step_of_trace`, where the decoder of a step is the event table on the event's code and operand. -/
theorem stepRunsTheDecodedInstruction : Obligations.StepRunsTheDecodedInstruction := by
  intro s ev rest i htrace hdecode
  exact step_of_trace htrace hdecode

/-! ## The parameters (R6) -/

/-- Every way an instruction completes is an update of the block, the response and the epoch, which leaves the
parameters alone. -/
theorem exec_params {i : Instr} {s t : State} (h : exec i s = .next t) : t.params = s.params := by
  obtain ⟨-, -, -, v, rfl⟩ | ⟨-, -, -, -, -, -, ⟨off, rfl⟩ | rfl⟩ | ⟨-, -, -, rfl⟩ | ⟨-, -, -, rfl⟩ | ⟨-, -, rfl⟩ |
    ⟨-, -, rfl⟩ | ⟨-, -, rfl⟩ | ⟨-, -, rfl⟩ := exec_cases h
  case inl => exact State.finishRead_params s v
  case inr.inl.inl => exact State.raiseBusError_params s off
  all_goals simp only [State.finishWrite_params, State.complete_params]

/-- A step runs one instruction on a state that differs from the one before it in the schedule only. -/
theorem step_params {s t : State} (h : step s = .next t) : t.params = s.params := by
  obtain ⟨ev, rest, i, -, -, hexec⟩ := step_eq_next h
  exact (exec_params hexec).trans rfl

/-- Settles O55: construction branches on the check, whose meaning is `Params.ok_iff`; steps by `step_params`. -/
theorem parametersAreCheckedAndConstant : Obligations.ParametersAreCheckedAndConstant := by
  refine ⟨fun p so => ?_, fun s t => step_params⟩
  simp only [State.construct, Params.ok_iff]

end Sys2Proof.Machine
end

section
/-! The state elements and their owners (10_state): what each operation of the block writes and what it leaves alone, the
writers of R20's table, the invariant of the reachable states, and the ownership by phase of R53. -/

namespace Sys2Proof.Machine

/-! ## What an instruction does to the block -/

theorem ne_tick_of_isMeasure {i : Instr} (h : i.isMeasure = true) : i ≠ .tick := by
  rintro rfl; cases h

/-- `exec_cases` seen from the block: reads, bus errors, writes without effect and ignored MEASUREs all leave it as it
was. -/
theorem exec_block_cases {i : Instr} {s t : State} (h : exec i s = .next t) :
    (i ≠ .tick ∧ t.block = s.block) ∨
    (i.isMeasure = true ∧ s.block.busy = false ∧ t.block = s.block.acceptMeasure) ∨
    (i = .tick ∧ t.block = s.block.tick s.params s.freeSlots s.freeTimer) ∨
    ((i = .sensorLow ∨ i = .sensorRelease) ∧ ∃ v, t.block = s.block.setSensor v) ∨
    (i = .service ∧ s.block.serviceEnabled = true ∧ t.block = s.block.service s.params) := by
  rcases exec_cases h with ⟨-, hread, -, v, rfl⟩ | ⟨-, -, htick, -, -, -, ⟨off, rfl⟩ | rfl⟩ | ⟨-, hm, -, rfl⟩ |
    ⟨-, hm, hbusy, rfl⟩ | ⟨-, rfl, rfl⟩ | ⟨-, rfl, rfl⟩ | ⟨-, rfl, rfl⟩ | ⟨hen, rfl, rfl⟩
  · exact .inl ⟨(by rintro rfl; cases hread), rfl⟩
  · exact .inl ⟨htick, rfl⟩
  · exact .inl ⟨htick, rfl⟩
  · exact .inl ⟨ne_tick_of_isMeasure hm, rfl⟩
  · exact .inr (.inl ⟨hm, hbusy, rfl⟩)
  · exact .inr (.inr (.inl ⟨rfl, rfl⟩))
  · exact .inr (.inr (.inr (.inl ⟨.inl rfl, false, rfl⟩)))
  · exact .inr (.inr (.inr (.inl ⟨.inr rfl, true, rfl⟩)))
  · exact .inr (.inr (.inr (.inr ⟨rfl, hen, rfl⟩)))

/-! ## Frames of the operations -/

/-- Decode() writes IDX and the results only (R160, R168 to R170). -/
@[simp] theorem Block.decodeFrame_frame (p : Params) (free : Nat → Sample) (b : Block) :
    (b.decodeFrame p free).cnt = b.cnt ∧ (b.decodeFrame p free).capt = b.capt ∧
    (b.decodeFrame p free).pend = b.pend ∧ (b.decodeFrame p free).pol = b.pol ∧
    (b.decodeFrame p free).armed = b.armed ∧ (b.decodeFrame p free).prev = b.prev ∧
    (b.decodeFrame p free).buf = b.buf ∧ (b.decodeFrame p free).ovf = b.ovf ∧
    (b.decodeFrame p free).phase = b.phase ∧ (b.decodeFrame p free).pt = b.pt ∧
    (b.decodeFrame p free).drive = b.drive ∧ (b.decodeFrame p free).sensorOut = b.sensorOut := by
  rcases b.decodeFrame_cases p free with ⟨-, h⟩ | ⟨-, h, -⟩ | ⟨-, h, -⟩ <;> simp [h]

/-- A tick adds 1 to CNT (R21) and leaves the recorder's POL, PREV, OVF and slots, and the sensor's driver, alone. -/
@[simp] theorem Block.tick_frame (p : Params) (free : Nat → Sample) (freePt : BitVec 32) (b : Block) :
    (b.tick p free freePt).cnt = b.cnt + 1 ∧ (b.tick p free freePt).pol = b.pol ∧
    (b.tick p free freePt).prev = b.prev ∧ (b.tick p free freePt).buf = b.buf ∧
    (b.tick p free freePt).ovf = b.ovf ∧ (b.tick p free freePt).sensorOut = b.sensorOut := by
  rcases b.tick_cases p free freePt with ⟨-, h⟩ | ⟨-, -, h⟩ | ⟨-, -, h⟩ | ⟨-, -, h⟩ | ⟨-, -, h⟩ <;> simp [h]

/-- Only the end of the trigger releases the line (R136). -/
theorem Block.tick_drive_of_not_trig {p : Params} {free : Nat → Sample} {freePt : BitVec 32} {b : Block}
    (h : b.phase ≠ .trig) : (b.tick p free freePt).drive = b.drive := by
  rcases b.tick_cases p free freePt with ⟨-, ht⟩ | ⟨hp, -, -⟩ | ⟨hp, -, -⟩ | ⟨-, -, ht⟩ | ⟨-, -, ht⟩
  case inr.inl | inr.inr.inl => exact absurd hp h
  all_goals simp [ht]

/-- IDX and the results move in the tick that ends the window, or not at all (R137, R138). -/
theorem Block.tick_decodes_or_keeps (p : Params) (free : Nat → Sample) (freePt : BitVec 32) (b : Block) :
    (b.phase = .window ∧ (b.tick p free freePt).phase = .done) ∨
    ((b.tick p free freePt).idx = b.idx ∧ (b.tick p free freePt).hum = b.hum ∧
      (b.tick p free freePt).temp = b.temp ∧ (b.tick p free freePt).valid = b.valid ∧
      (b.tick p free freePt).lastCause = b.lastCause) := by
  rcases b.tick_cases p free freePt with ⟨-, h⟩ | ⟨-, -, h⟩ | ⟨-, -, h⟩ | ⟨-, -, h⟩ | ⟨hp, -, h⟩
  case inr.inr.inr.inr => exact .inl ⟨hp, by rw [h]⟩
  all_goals right; simp [h]

/-- A service writes PEND, POL, PREV, IDX, OVF and the slots only (R105). -/
@[simp] theorem Block.service_frame (p : Params) (b : Block) :
    (b.service p).cnt = b.cnt ∧ (b.service p).capt = b.capt ∧ (b.service p).pend = false ∧
    (b.service p).armed = b.armed ∧ (b.service p).phase = b.phase ∧ (b.service p).pt = b.pt ∧
    (b.service p).drive = b.drive ∧ (b.service p).sensorOut = b.sensorOut ∧ (b.service p).hum = b.hum ∧
    (b.service p).temp = b.temp ∧ (b.service p).valid = b.valid ∧ (b.service p).lastCause = b.lastCause := by
  rcases b.service_cases p with ⟨-, h⟩ | ⟨-, -, h⟩ | ⟨-, -, h⟩ <;> simp [h]

/-- A service changes slot IDX only, below CAP only, and leaves it written (R28, R105). -/
theorem Block.service_slot {p : Params} {b : Block} {j : Nat} (h : (b.service p).buf.read j ≠ b.buf.read j) :
    j = b.idx.toNat ∧ b.idx.toNat < p.cap ∧ ((b.service p).buf.read j).isSome = true := by
  rcases b.service_cases p with ⟨-, hs⟩ | ⟨-, hcap, hs⟩ | ⟨-, -, hs⟩
  case inr.inl =>
    rw [hs] at h ⊢
    have hj : j = b.idx.toNat := by
      by_contra hne
      exact h (Buffer.read_write_other _ _ _ _ hne)
    subst hj
    exact ⟨rfl, hcap, by simp⟩
  all_goals exact absurd (by rw [hs]) h

/-- An accepted MEASURE leaves CNT, ARMED, the slots and the sensor's driver alone (R131). -/
@[simp] theorem Block.acceptMeasure_frame (b : Block) :
    b.acceptMeasure.cnt = b.cnt ∧ b.acceptMeasure.armed = b.armed ∧ b.acceptMeasure.buf = b.buf ∧
    b.acceptMeasure.sensorOut = b.sensorOut := by
  simp [Block.acceptMeasure]

/-! ## Captures (R100, R101) -/

/-- CAPT changes, or PEND is set, from `b` to `c`. -/
def Block.Latches (b c : Block) : Prop := c.capt ≠ b.capt ∨ (b.pend = false ∧ c.pend = true)

/-- A change of WIRE from `b` to `c` was captured: PEND is set and CAPT holds CNT. -/
def Block.Captured (b c : Block) : Prop := c.wire ≠ b.wire ∧ c.pend = true ∧ c.capt = c.cnt

theorem Block.not_latches_of_eq {b c : Block} (hcapt : c.capt = b.capt) (hpend : c.pend = b.pend) :
    ¬ b.Latches c := by
  simp [Block.Latches, hcapt, hpend]

theorem Block.not_latches_of_cleared {b c : Block} (hcapt : c.capt = b.capt) (hpend : c.pend = false) :
    ¬ b.Latches c := by
  simp [Block.Latches, hcapt, hpend]

/-- The edge detector latches at a change of WIRE only, and then as Capture() does. -/
theorem Block.wireUpdate_of_latches {old : Bool} {b : Block} (h : b.Latches (b.wireUpdate old)) :
    b.wire ≠ old ∧ b.wireUpdate old = b.capture := by
  unfold Block.wireUpdate at h ⊢
  split at h
  case isTrue hedge =>
    simp only [Bool.and_eq_true, bne_iff_ne] at hedge
    exact ⟨hedge.1, if_pos (by simpa using hedge)⟩
  case isFalse => exact absurd h (Block.not_latches_of_eq rfl rfl)

theorem Block.setDrive_captured {v : Bool} {b : Block} (h : b.Latches (b.setDrive v)) : b.Captured (b.setDrive v) := by
  obtain ⟨hedge, hcap⟩ := Block.wireUpdate_of_latches (b := { b with drive := v }) h
  rw [Block.setDrive, hcap]
  exact ⟨hedge, rfl, rfl⟩

theorem Block.setSensor_captured {v : Bool} {b : Block} (h : b.Latches (b.setSensor v)) :
    b.Captured (b.setSensor v) := by
  obtain ⟨hedge, hcap⟩ := Block.wireUpdate_of_latches (b := { b with sensorOut := v }) h
  rw [Block.setSensor, hcap]
  exact ⟨hedge, rfl, rfl⟩

/-- The cycle reset comes before the drive (R219d) and keeps WIRE and CAPT, so what MEASURE latches is the drive's own
edge. -/
theorem Block.acceptMeasure_captured {b : Block} (h : b.Latches b.acceptMeasure) : b.Captured b.acceptMeasure :=
  Block.setDrive_captured (b := b.cycleReset) (h.imp id fun hpend => ⟨rfl, hpend.2⟩)

/-- A tick latches in TRIG only, by the edge of the release (R136). -/
theorem Block.tick_captured {p : Params} {free : Nat → Sample} {freePt : BitVec 32} {b : Block}
    (h : b.Latches (b.tick p free freePt)) : b.phase = .trig ∧ b.Captured (b.tick p free freePt) := by
  rcases b.tick_cases p free freePt with ⟨-, ht⟩ | ⟨-, -, ht⟩ | ⟨hp, -, ht⟩ | ⟨-, -, ht⟩ | ⟨-, -, ht⟩
  case inr.inr.inl =>
    rw [ht] at h ⊢
    exact ⟨hp, Block.setDrive_captured (b := { b with cnt := b.cnt + 1, armed := true, phase := .window, pt := 0 }) h⟩
  all_goals exact absurd h (Block.not_latches_of_eq (by simp [ht]) (by simp [ht]))

/-! A capture over a pending one leaves PEND set (R215): only SERVICE and MEASURE clear it. -/

theorem Block.wireUpdate_keeps_pend {old : Bool} {b : Block} (h : b.pend = true) : (b.wireUpdate old).pend = true := by
  simp [Block.wireUpdate_eq, h]

theorem Block.setSensor_keeps_pend {v : Bool} {b : Block} (h : b.pend = true) : (b.setSensor v).pend = true :=
  Block.wireUpdate_keeps_pend (b := { b with sensorOut := v }) h

theorem Block.tick_keeps_pend {p : Params} {free : Nat → Sample} {freePt : BitVec 32} {b : Block}
    (h : b.pend = true) : (b.tick p free freePt).pend = true := by
  rcases b.tick_cases p free freePt with ⟨-, ht⟩ | ⟨-, -, ht⟩ | ⟨-, -, ht⟩ | ⟨-, -, ht⟩ | ⟨-, -, ht⟩
  case inr.inr.inl => rw [ht]; exact Block.wireUpdate_keeps_pend h
  all_goals simp [ht, h]

/-! ## The counter, the slots and the writers of R20 -/

/-- Settles O43: of what an instruction can do to the block, only a tick writes CNT (`Block.tick_frame`). -/
theorem counterCountsTicksOnly : Obligations.CounterCountsTicksOnly := by
  refine ⟨fun i s t h => ?_, fun s => rfl, rfl⟩
  rcases exec_block_cases h with ⟨hi, hb⟩ | ⟨hm, -, hb⟩ | ⟨rfl, hb⟩ | ⟨rfl | rfl, v, hb⟩ | ⟨rfl, -, hb⟩
  · simp [hb, hi]
  · simp [hb, ne_tick_of_isMeasure hm]
  all_goals simp [hb]

/-- Settles O44: every other case leaves BUF alone, and a service writes as `Block.service_slot` says. -/
theorem slotsAreWrittenByServiceOnly : Obligations.SlotsAreWrittenByServiceOnly := by
  intro i s t j h hj
  rcases exec_block_cases h with ⟨-, hb⟩ | ⟨-, -, hb⟩ | ⟨-, hb⟩ | ⟨-, v, hb⟩ | ⟨rfl, -, hb⟩
  case inr.inr.inr.inr =>
    rw [hb] at hj ⊢
    exact ⟨rfl, Block.service_slot hj⟩
  all_goals exact absurd (by simp [hb]) hj

/-- Settles O45: the captures by the `_captured` lemmas, PEND by the `_keeps_pend` lemmas, the other elements by the
frames; IDX moves in a tick with the decode only. -/
theorem recorderElementsHaveTheirWriters : Obligations.RecorderElementsHaveTheirWriters := by
  intro i s t h
  rcases exec_block_cases h with ⟨-, hb⟩ | ⟨hm, -, hb⟩ | ⟨rfl, hb⟩ | ⟨hi, v, hb⟩ | ⟨rfl, -, hb⟩ <;> rw [hb]
  · exact ⟨fun hl => absurd hl (Block.not_latches_of_eq rfl rfl), by simp_all⟩
  · exact ⟨fun hl => ⟨.inr (.inr (.inl hm)), Block.acceptMeasure_captured hl⟩, by simp [hm]⟩
  · refine ⟨fun hl => ?_, fun hset hclear => ?_, by simp, by simp, by simp, fun hidx => ?_⟩
    · obtain ⟨hp, hcap⟩ := Block.tick_captured hl
      exact ⟨.inr (.inr (.inr ⟨rfl, hp⟩)), hcap⟩
    · simp [Block.tick_keeps_pend hset] at hclear
    · obtain ⟨hw, hd⟩ | ⟨hkeep, -⟩ := s.block.tick_decodes_or_keeps s.params s.freeSlots s.freeTimer
      · exact .inr (.inr ⟨rfl, hw, hd⟩)
      · exact absurd hkeep hidx
  · refine ⟨fun hl => ⟨by tauto, Block.setSensor_captured hl⟩, fun hset hclear => ?_, by simp⟩
    simp [Block.setSensor_keeps_pend hset] at hclear
  · exact ⟨fun hl => absurd hl (Block.not_latches_of_cleared (by simp) (by simp)), by simp⟩

/-- Settles O46: by the frames; DRIVE moves in a tick of TRIG only and the results with the decode only. -/
theorem sequencerElementsHaveTheirWriters : Obligations.SequencerElementsHaveTheirWriters := by
  intro i s t h
  rcases exec_block_cases h with ⟨-, hb⟩ | ⟨hm, -, hb⟩ | ⟨rfl, hb⟩ | ⟨hi, v, hb⟩ | ⟨rfl, -, hb⟩ <;> rw [hb]
  · simp
  · simp [hm]
  · refine ⟨fun _ => rfl, fun _ => .inl rfl, fun hdrive => .inr ⟨rfl, ?_⟩, by simp, fun hres => .inr ⟨rfl, ?_⟩⟩
    · by_contra hp
      exact hdrive (Block.tick_drive_of_not_trig hp)
    · refine (s.block.tick_decodes_or_keeps s.params s.freeSlots s.freeTimer).resolve_right fun hkeep => ?_
      simp [hkeep] at hres
  · simp [hi]
  · simp

/-! ## The invariant

One lemma per operation: it keeps `Block.Inv`. -/

section BlockInvariant

variable {p : Params} {b : Block}

/-- The invariant speaks neither of the counter nor of the capture latch nor of the sensor's driver. -/
theorem Block.Inv.set_latch (h : b.Inv p) (cnt capt : Sample) (pend sensorOut : Bool) :
    Block.Inv p { b with cnt := cnt, capt := capt, pend := pend, sensorOut := sensorOut } where
  armed_iff := h.armed_iff
  drive_iff := h.drive_iff
  idx_le := h.idx_le
  buf_wf := h.buf_wf
  written := h.written
  pt_rest := h.pt_rest
  pt_trig := h.pt_trig
  pt_window := h.pt_window
  results_zero := h.results_zero
  valid_iff := h.valid_iff
  cause_iff := h.cause_iff
  fresh := h.fresh
  ovf_full := h.ovf_full
  trunc_idx := h.trunc_idx

theorem Block.Inv.wireUpdate (h : b.Inv p) (old : Bool) : (b.wireUpdate old).Inv p := by
  rw [Block.wireUpdate_eq]
  exact h.set_latch _ _ _ _

theorem Block.Inv.setSensor (h : b.Inv p) (v : Bool) : (b.setSensor v).Inv p :=
  (h.set_latch _ _ _ v).wireUpdate _

/-- The parameters' share in the invariant (R6): the buffer fits IDX, and both counts are at least one tick. -/
theorem params_bounds_of_ok (h : p.ok = true) :
    40 ≤ p.cap ∧ p.cap ≤ 64 ∧ 1 ≤ p.trigTicks ∧ 1 ≤ p.winTicks ∧ p.winTicks < 2 ^ 32 := by
  obtain ⟨hlo, hhi, -, htrig, -, hwin, hmax, -⟩ := p.ok_iff.1 h
  exact ⟨hlo, hhi, htrig, hwin, by omega⟩

theorem Block.Inv.not_armed_of_not_busy (h : b.Inv p) (hbusy : b.busy = false) : b.armed = false := by
  by_contra harmed
  simp [Block.busy, h.armed_iff.1 (Bool.not_eq_false _ ▸ harmed)] at hbusy

/-- An accepted MEASURE writes every element the invariant speaks of but BUF and ARMED (R131), and ARMED is 0 where it
is accepted. -/
theorem Block.Inv.acceptMeasure (h : b.Inv p) (hp : p.ok = true) (hbusy : b.busy = false) :
    b.acceptMeasure.Inv p := by
  obtain ⟨-, -, htrig, -, -⟩ := params_bounds_of_ok hp
  have harmed : b.armed = false := h.not_armed_of_not_busy hbusy
  rw [Block.acceptMeasure_eq]
  exact {
    armed_iff := by simp [harmed]
    drive_iff := by simp
    idx_le := Nat.zero_le _
    buf_wf := h.buf_wf
    written := fun j hj => absurd hj (Nat.not_lt_zero j)
    pt_rest := fun _ => rfl
    pt_trig := fun _ => htrig
    pt_window := by simp
    results_zero := fun _ => ⟨rfl, rfl⟩
    valid_iff := by simp
    cause_iff := by simp
    fresh := fun _ => ⟨rfl, rfl, rfl, rfl⟩
    ovf_full := by simp
    trunc_idx := by simp }

/-- PT + 1 has not passed a count that PT was below and PT + 1 does not meet; where 32 bits cannot hold PT + 1, they
cannot hold the count either. -/
theorem timerSucc_lt {free pt : BitVec 32} {n : Nat} (hlt : pt.toNat < n) (hne : (timerSucc free pt).toNat ≠ n) :
    (timerSucc free pt).toNat < n := by
  by_cases hmax : pt.toNat + 1 < 2 ^ 32
  · rw [timerSucc_toNat hmax] at hne ⊢
    omega
  · have := (timerSucc free pt).isLt
    omega

/-- A count of the timer that does not reach its end. -/
theorem Block.Inv.set_pt (h : b.Inv p) {pt : BitVec 32} (hbusy : b.busy = true)
    (htrig : b.phase = .trig → pt.toNat < p.trigTicks) (hwin : b.phase = .window → pt.toNat < p.winTicks) :
    Block.Inv p { b with pt := pt } where
  armed_iff := h.armed_iff
  drive_iff := h.drive_iff
  idx_le := h.idx_le
  buf_wf := h.buf_wf
  written := h.written
  pt_rest := fun hrest => absurd hbusy (by simpa [Block.busy] using hrest)
  pt_trig := htrig
  pt_window := hwin
  results_zero := h.results_zero
  valid_iff := h.valid_iff
  cause_iff := h.cause_iff
  fresh := h.fresh
  ovf_full := h.ovf_full
  trunc_idx := h.trunc_idx

/-- The end of the trigger, before the edge detector runs (R136): OVF is still 0 from the cycle reset. -/
theorem Block.Inv.openWindow (h : b.Inv p) (hp : p.ok = true) (htrig : b.phase = .trig) :
    Block.Inv p { b with armed := true, phase := .window, pt := 0, drive := false } := by
  obtain ⟨-, -, -, hwin, -⟩ := params_bounds_of_ok hp
  obtain ⟨-, -, -, hovf⟩ := h.fresh (.inr htrig)
  have hcause : b.lastCause = .none := h.cause_iff.2 (by simp [htrig])
  exact {
    armed_iff := by simp
    drive_iff := by simp
    idx_le := h.idx_le
    buf_wf := h.buf_wf
    written := h.written
    pt_rest := fun _ => rfl
    pt_trig := by simp
    pt_window := fun _ => hwin
    results_zero := h.results_zero
    valid_iff := h.valid_iff
    cause_iff := by simp [hcause]
    fresh := by simp
    ovf_full := by simp [hovf]
    trunc_idx := h.trunc_idx }

/-- The end of the window keeps the invariant for whatever a decode may leave: an IDX that has not grown, results that
are 0 unless VALID, and a cause that agrees with VALID and IDX. -/
theorem Block.Inv.closeWindow (h : b.Inv p) (hwin : b.phase = .window) {idx : BitVec 7} {hum temp : Sample}
    {valid : Bool} {cause : Cause} (hidx : idx.toNat ≤ b.idx.toNat)
    (hres : valid = false → hum = 0 ∧ temp = 0) (hvalid : valid = true ↔ cause = .ok) (hnone : cause ≠ .none)
    (htrunc : cause = .trunc → idx.toNat < nreq) :
    Block.Inv p { b with armed := false, phase := .done, pt := 0, idx := idx, hum := hum, temp := temp,
                         valid := valid, lastCause := cause } where
  armed_iff := by simp
  drive_iff := by simpa [hwin] using h.drive_iff
  idx_le := hidx.trans h.idx_le
  buf_wf := h.buf_wf
  written := fun j hj => h.written j (hj.trans_le hidx)
  pt_rest := fun _ => rfl
  pt_trig := by simp
  pt_window := by simp
  results_zero := hres
  valid_iff := hvalid
  cause_iff := by simp [hnone]
  fresh := by simp
  ovf_full := by simp
  trunc_idx := htrunc

/-- Popping forty of at least forty samples does not wrap IDX (R166). -/
theorem idx_sub_forty_le {idx : BitVec 7} (h : nreq ≤ idx.toNat) : (idx - 40).toNat ≤ idx.toNat := by
  have hfull : 40 ≤ idx.toNat := h
  bv_omega

/-- The three ways a decode ends meet `Block.Inv.closeWindow`. -/
theorem Block.Inv.decodeAtEnd (h : b.Inv p) (hwin : b.phase = .window) (free : Nat → Sample) (pt : BitVec 32) :
    Block.Inv p { { b with armed := false, pt := pt }.decodeFrame p free with phase := .done, pt := 0 } := by
  rcases Block.decodeFrame_cases p free { b with armed := false, pt := pt } with
    ⟨hshort, hd⟩ | ⟨hfull, hd, -⟩ | ⟨hfull, hd, -⟩ <;> rw [hd]
  · exact h.closeWindow hwin le_rfl (fun _ => ⟨rfl, rfl⟩) (by simp) (by simp) (fun _ => hshort)
  · exact h.closeWindow hwin (idx_sub_forty_le hfull) (by simp) (by simp) (by simp) (by simp)
  · exact h.closeWindow hwin (idx_sub_forty_le hfull) (fun _ => ⟨rfl, rfl⟩) (by simp) (by simp) (by simp)

/-- A tick, by its five cases. -/
theorem Block.Inv.tick (h : b.Inv p) (hp : p.ok = true) (free : Nat → Sample) (freePt : BitVec 32) :
    (b.tick p free freePt).Inv p := by
  have hcnt : Block.Inv p { b with cnt := b.cnt + 1 } := h.set_latch _ _ _ _
  rcases b.tick_cases p free freePt with ⟨-, ht⟩ | ⟨hph, hne, ht⟩ | ⟨hph, -, ht⟩ | ⟨hph, hne, ht⟩ | ⟨hph, -, ht⟩ <;>
    rw [ht]
  · exact hcnt
  · exact hcnt.set_pt (by simp [Block.busy, hph]) (fun _ => timerSucc_lt (h.pt_trig hph) hne) (by simp [hph])
  · exact (hcnt.openWindow hp hph).wireUpdate _
  · exact hcnt.set_pt (by simp [Block.busy, hph]) (by simp [hph]) (fun _ => timerSucc_lt (h.pt_window hph) hne)
  · exact hcnt.decodeAtEnd hph free _

/-- The invariant in the window, where no service changes ARMED, the phase, the timer or the results: what is left to
check of a service is IDX, the slots and OVF. -/
theorem Block.Inv.set_recorder (h : b.Inv p) (hwin : b.phase = .window) {prev : Sample} {pol : Polarity}
    {idx : BitVec 7} {buf : Buffer} {ovf : Bool} (hidx : idx.toNat ≤ p.cap) (hbuf : buf.wf p.cap = true)
    (hwritten : ∀ j, j < idx.toNat → (buf.read j).isSome = true) (hovf : ovf = true → idx.toNat = p.cap) :
    Block.Inv p { b with prev := prev, pol := pol, idx := idx, buf := buf, ovf := ovf } where
  armed_iff := h.armed_iff
  drive_iff := h.drive_iff
  idx_le := hidx
  buf_wf := hbuf
  written := hwritten
  pt_rest := h.pt_rest
  pt_trig := h.pt_trig
  pt_window := h.pt_window
  results_zero := h.results_zero
  valid_iff := h.valid_iff
  cause_iff := h.cause_iff
  fresh := by simp [hwin]
  ovf_full := fun _ => hovf
  trunc_idx := by simp [h.cause_iff.2 (by simp [hwin])]

/-- Writing slot IDX leaves every slot below IDX + 1 written (R52). -/
theorem Block.Inv.written_write (h : b.Inv p) (v : Sample) {j : Nat} (hj : j < b.idx.toNat + 1) :
    ((b.buf.write b.idx.toNat v).read j).isSome = true := by
  by_cases hlast : j = b.idx.toNat
  · simp [hlast]
  · rw [Buffer.read_write_other _ _ _ _ hlast]
    exact h.written j (by omega)

theorem Block.armed_of_serviceEnabled (h : b.serviceEnabled = true) : b.armed = true :=
  (Bool.and_eq_true_iff.1 h).1

/-- A service in the window: no sample; a sample in slot IDX; a sample dropped at a full buffer. -/
theorem Block.Inv.service (h : b.Inv p) (hp : p.ok = true) (hwin : b.phase = .window) : (b.service p).Inv p := by
  obtain ⟨-, hcap64, -, -, -⟩ := params_bounds_of_ok hp
  have hpend : Block.Inv p { b with pend := false } := h.set_latch _ _ _ _
  rcases b.service_cases p with ⟨-, hs⟩ | ⟨-, hcap, hs⟩ | ⟨-, hcap, hs⟩ <;> rw [hs]
  · exact hpend.set_recorder hwin h.idx_le h.buf_wf h.written (h.ovf_full hwin)
  · have hsucc : (b.idx + 1).toNat = b.idx.toNat + 1 := by bv_omega
    refine hpend.set_recorder hwin (by omega) (Buffer.wf_write _ _ hcap h.buf_wf) (fun j hj => ?_) fun hovf => ?_
    · exact h.written_write _ (by omega)
    · exact absurd (h.ovf_full hwin hovf) (by omega)
  · exact hpend.set_recorder hwin h.idx_le h.buf_wf h.written fun _ => by have := h.idx_le; omega

end BlockInvariant

/-- Every instruction keeps the invariant: each thing it can do to the block does. -/
theorem exec_keeps_inv {i : Instr} {s t : State} (hs : s.Inv) (h : exec i s = .next t) : t.Inv := by
  obtain ⟨hp, hb⟩ := hs
  have hparams := exec_params h
  refine ⟨hparams ▸ hp, ?_⟩
  rw [hparams]
  rcases exec_block_cases h with ⟨-, ht⟩ | ⟨-, hbusy, ht⟩ | ⟨-, ht⟩ | ⟨-, v, ht⟩ | ⟨-, hen, ht⟩ <;> rw [ht]
  · exact hb
  · exact hb.acceptMeasure hp hbusy
  · exact hb.tick hp _ _
  · exact hb.setSensor v
  · exact hb.service hp (hb.armed_iff.1 (Block.armed_of_serviceEnabled hen))

/-- Settles O52: a step runs one instruction on a state that differs in the schedule only (`step_eq_next`), and every
instruction keeps the invariant. -/
theorem stepKeepsTheInvariant : Obligations.StepKeepsTheInvariant := by
  intro s t hs hstep
  obtain ⟨ev, rest, i, -, -, hexec⟩ := step_eq_next hstep
  exact exec_keeps_inv (s := { s with trace := rest }) ⟨hs.params_ok, hs.block_inv⟩ hexec

/-! ## Ownership by phase (R53) -/

/-- The tick that ends the window finds the block armed and leaves it disarmed. -/
theorem disarms_of_windowEnd {s t : State} (hs : s.Inv) (ht : t.Inv) (hwin : s.block.phase = .window)
    (hdone : t.block.phase = .done) : s.block.armed = true ∧ t.block.armed = false := by
  refine ⟨hs.block_inv.armed_iff.2 hwin, ?_⟩
  by_contra harmed
  have := ht.block_inv.armed_iff.1 (Bool.not_eq_false _ ▸ harmed)
  simp [hdone] at this

/-- Settles O49: a service is enabled only while armed, a MEASURE is accepted only while not, and IDX moves in a tick
with the decode only; PREV and BUF by the frames. -/
theorem ownershipIsByPhase : Obligations.OwnershipIsByPhase := by
  intro i s t hs h
  have hdisarm := disarms_of_windowEnd hs (exec_keeps_inv hs h)
  refine ⟨hs.block_inv.armed_iff.1, ?_, ?_, fun ⟨hwin, hdone⟩ => hdisarm hwin hdone⟩
  · rcases exec_block_cases h with ⟨-, hb⟩ | ⟨-, -, hb⟩ | ⟨-, hb⟩ | ⟨-, v, hb⟩ | ⟨hi, hen, hb⟩
    case inr.inr.inr.inr => exact fun _ => ⟨hi, Block.armed_of_serviceEnabled hen⟩
    all_goals exact fun hbuf => absurd (by simp [hb]) hbuf
  · rcases exec_block_cases h with ⟨-, hb⟩ | ⟨hm, hbusy, -⟩ | ⟨hi, hb⟩ | ⟨-, v, hb⟩ | ⟨hi, hen, -⟩
    · simp [hb]
    · exact fun _ => .inr (.inl ⟨hm, hs.block_inv.not_armed_of_not_busy hbusy⟩)
    · intro hmove
      obtain ⟨hwin, hdone⟩ | ⟨hidx, -⟩ := s.block.tick_decodes_or_keeps s.params s.freeSlots s.freeTimer
      · exact .inr (.inr ⟨hi, hdisarm hwin (hb ▸ hdone)⟩)
      · simp [hb, hidx] at hmove
    · simp [hb]
    · exact fun _ => .inl ⟨hi, Block.armed_of_serviceEnabled hen⟩

end Sys2Proof.Machine
end

section
/-! The host's view of the window (20_memory): bus addresses and byte lanes (R61, R63), reads that change nothing and
repeat their answer (R66), and writes of which only MEASURE has an effect (R67). -/

namespace Sys2Proof

/-! ## BUF's offsets (R40, R84) -/

@[simp] theorem offBank_bufOffset (i : BitVec 6) : offBank (bufOffset i) = true := by
  rw [offBank, bufOffset, BitVec.getLsbD_append, BitVec.getLsbD_append]
  rfl

@[simp] theorem offIndex_bufOffset (i : BitVec 6) : offIndex (bufOffset i) = i := by
  simp only [offIndex, bufOffset]
  rw [BitVec.extractLsb'_append_eq_of_le (by decide)]
  exact BitVec.extractLsb'_append_eq_right

theorem isMeasure_eq_false_of_isHostRead {i : Instr} (h : i.isHostRead = true) : i.isMeasure = false := by
  cases i with
  | measure | wrCtrl | busWrite => cases h
  | _ => rfl

namespace Machine

/-! ## Addresses and lanes (R61, R63) -/

theorem windowOffset_eq_some_iff {p : Params} {addr : Nat} {off : Offset} :
    windowOffset p addr = some off ↔ p.base ≤ addr ∧ addr < p.base + windowBytes ∧ off.toNat = addr - p.base := by
  unfold windowOffset
  split
  case isTrue hin =>
    have hfits : (BitVec.ofNat 9 (addr - p.base)).toNat = addr - p.base := by
      rw [BitVec.toNat_ofNat]
      exact Nat.mod_eq_of_lt (Nat.sub_lt_left_of_lt_add hin.1 hin.2)
    rw [Option.some_inj, ← BitVec.toNat_inj, hfits, ← and_assoc, and_iff_right hin, eq_comm]
  case isFalse hout => simpa using fun hlo hhi => absurd ⟨hlo, hhi⟩ hout

/-- The lanes are adjacent extracts, which join from the top. -/
theorem byteLane_append (v : Word) : byteLane v 3 ++ byteLane v 2 ++ byteLane v 1 ++ byteLane v 0 = v := by
  simp only [byteLane]
  rw [BitVec.extractLsb'_append_extractLsb'_eq_extractLsb' (start₁ := 8 * 2) (len₁ := 8) rfl,
    BitVec.extractLsb'_append_extractLsb'_eq_extractLsb' (start₁ := 8 * 1) (start₂ := 8 * 2) rfl,
    BitVec.extractLsb'_append_extractLsb'_eq_extractLsb' (start₁ := 8 * 0) (start₂ := 8 * 1) rfl]
  exact BitVec.extractLsb'_eq_self

/-- Settles O41: by `windowOffset_eq_some_iff` and `byteLane_append`. -/
theorem windowAddressesAndLanes : Obligations.WindowAddressesAndLanes :=
  ⟨fun _ _ _ => windowOffset_eq_some_iff, byteLane_append⟩

/-! ## What a host access leaves alone -/

/-- Only `State.fetch` takes an event off the schedule; no instruction touches it. -/
theorem exec_trace {i : Instr} {s t : State} (h : exec i s = .next t) : t.trace = s.trace := by
  obtain ⟨-, -, -, v, rfl⟩ | ⟨-, -, -, -, -, -, ⟨off, rfl⟩ | rfl⟩ | ⟨-, -, -, rfl⟩ | ⟨-, -, -, rfl⟩ | ⟨-, -, rfl⟩ |
    ⟨-, -, rfl⟩ | ⟨-, -, rfl⟩ | ⟨-, -, rfl⟩ := exec_cases h <;> rfl

/-- Of the ways to change the block, MEASURE alone is a host access. -/
theorem exec_block_of_hostAccess {i : Instr} {s t : State} (hi : i.isHostRead = true ∨ i.isHostWrite = true)
    (hm : i.isMeasure = false) (h : exec i s = .next t) : t.block = s.block := by
  rcases exec_block_cases h with ⟨-, hb⟩ | ⟨hm', -, -⟩ | ⟨rfl, -⟩ | ⟨rfl | rfl, -⟩ | ⟨rfl, -, -⟩
  · exact hb
  · exact absurd hm' (by simp [hm])
  all_goals exact absurd hi (by decide)

/-- Settles O40: by `exec_block_of_hostAccess`; no instruction writes the parameters or the schedule. -/
theorem onlyMeasureWritesHaveAnEffect : Obligations.OnlyMeasureWritesHaveAnEffect :=
  fun _ _ _ hw hm h => ⟨exec_block_of_hostAccess (.inr hw) hm h, exec_params h, exec_trace h⟩

/-! ## Reads (R66) -/

@[simp] theorem readReg_bufOffset (p : Params) (free : Nat → Sample) (b : Block) (i : BitVec 6) :
    readReg p free b (bufOffset i) = bufWord p free b i := by
  simp [readReg]

/-- A read without a bus error is ReadReg of one offset, whatever the state (R190): it depends on the parameters, the
block and the free values only. A reserved register reads as CTRL does, which is 0. -/
theorem exec_hostRead {i : Instr} (hread : i.isHostRead = true) (hlegal : i.isBusError = false) :
    ∃ off, ∀ s, exec i s = hostRead s (readReg s.params s.freeSlots s.block off) := by
  cases i with
  | rdCtrl => exact ⟨0x000#9, fun _ => rfl⟩
  | rdStatus => exact ⟨0x004#9, fun _ => rfl⟩
  | rdHum => exact ⟨0x008#9, fun _ => rfl⟩
  | rdTemp => exact ⟨0x00C#9, fun _ => rfl⟩
  | rdIdx => exact ⟨0x010#9, fun _ => rfl⟩
  | rdPrev => exact ⟨0x014#9, fun _ => rfl⟩
  | rdCapt => exact ⟨0x018#9, fun _ => rfl⟩
  | rdCfg => exact ⟨0x01C#9, fun _ => rfl⟩
  | rdCnt => exact ⟨0x020#9, fun _ => rfl⟩
  | rdBuf slot => exact ⟨bufOffset slot, fun s => by rw [readReg_bufOffset]; rfl⟩
  | rdReserved off => exact ⟨0x000#9, fun _ => rfl⟩
  | busRead off size => exact ⟨off, fun s => if_neg (by simpa [Instr.isBusError] using hlegal)⟩
  | busErr => cases hlegal
  | _ => cases hread

/-- The read leaves all that ReadReg depends on as it was, the epoch of the free values among it. -/
theorem exec_hostRead_again {i : Instr} {s t : State} (hread : i.isHostRead = true) (hlegal : i.isBusError = false)
    (h : exec i s = .next t) : exec i t = .next t := by
  obtain ⟨off, hexec⟩ := exec_hostRead hread hlegal
  obtain ⟨howed, rfl⟩ := unlessOwed_eq_next.1 ((hexec s).symm.trans h)
  exact (hexec _).trans (unlessOwed_of_not_owed _ howed)

/-- Settles O39: a read is a host access other than MEASURE, and a legal one ends where it began when it is repeated. -/
theorem readsChangeNoState : Obligations.ReadsChangeNoState := by
  intro i s t hread h
  refine ⟨exec_block_of_hostAccess (.inl hread) (isMeasure_eq_false_of_isHostRead hread) h, exec_params h, exec_trace h,
    fun hlegal => ?_⟩
  exact ⟨t, exec_hostRead_again hread hlegal h, rfl⟩

end Machine

end Sys2Proof
end

section
/-! The three encoded forms (30_encoding): the fields of a CMDW and of OFF, what each decoder answers, the two round
trips between labels and instructions (R81 to R87), and the events in which the rows of every form run (R80, R85). -/

namespace Sys2Proof

/-! ## The fields of a CMDW (R81) -/

@[simp] theorem cmdField_cmdWord (cmd : BitVec 4) (rsvd : BitVec 28) : cmdField (cmdWord cmd rsvd) = cmd :=
  BitVec.extractLsb'_append_eq_right

@[simp] theorem rsvdField_cmdWord (cmd : BitVec 4) (rsvd : BitVec 28) : rsvdField (cmdWord cmd rsvd) = rsvd :=
  BitVec.extractLsb'_append_eq_left

theorem cmdWord_fields (w : Word) : cmdWord (cmdField w) (rsvdField w) = w := by
  rw [cmdWord, rsvdField, cmdField, BitVec.extractLsb'_append_extractLsb'_eq_extractLsb' (start₁ := 0) (len₁ := 4) rfl]
  exact BitVec.extractLsb'_eq_self

/-! ## The fields of OFF (R83, R84) -/

theorem offLow_toNat (off : Offset) : (offLow off).toNat = off.toNat % 4 := by
  simp [offLow]

/-- OFF[8], OFF[7:2] and OFF[1:0] are the digits of the offset. -/
theorem offset_toNat_eq (off : Offset) :
    off.toNat = 0x100 * (offBank off).toNat + 4 * (offIndex off).toNat + (offLow off).toNat := by
  have hbank : (offBank off).toNat = off.toNat / 256 % 2 := by
    rw [offBank, BitVec.getLsbD, Nat.testBit_eq_decide_div_mod_eq]
    rcases Nat.mod_two_eq_zero_or_one (off.toNat / 256) with h | h <;> simp [h]
  have hindex : (offIndex off).toNat = off.toNat / 4 % 64 := by
    simp [offIndex, Nat.shiftRight_eq_div_pow]
  rw [hbank, hindex, offLow_toNat]
  omega

theorem accessIllegal_eq_false_iff {off : Offset} {size : Nat} :
    accessIllegal off size = false ↔ size = 4 ∧ off.isAligned = true := by
  rw [Offset.isAligned, ← offLow_toNat]
  simp [accessIllegal, BitVec.toNat_eq]

theorem accessIllegal_of_aligned {off : Offset} (h : off.isAligned = true) : accessIllegal off 4 = false :=
  accessIllegal_eq_false_iff.2 ⟨rfl, h⟩

/-- The two spellings of R83's step 1, over the number and over its low bits, agree. -/
theorem wellFormed_busErr (cap : Nat) (off : Offset) (size : Nat) (access : Access) :
    (Instr.busErr off size access).wellFormed cap = accessIllegal off size := by
  rw [Bool.eq_iff_iff, ← not_iff_not, Bool.not_eq_true, Bool.not_eq_true, accessIllegal_eq_false_iff]
  simp [Instr.wellFormed]

theorem offset_toNat_of_aligned {off : Offset} (h : off.isAligned = true) :
    off.toNat = 0x100 * (offBank off).toNat + 4 * (offIndex off).toNat := by
  have hlow : off.toNat % 4 = 0 := by simpa [Offset.isAligned] using h
  have hoff := offset_toNat_eq off
  rw [offLow_toNat, hlow] at hoff
  exact hoff

@[simp] theorem offLow_bufOffset (i : BitVec 6) : offLow (bufOffset i) = 0#2 :=
  BitVec.extractLsb'_append_eq_right

theorem bufOffset_toNat (i : BitVec 6) : (bufOffset i).toNat = 0x100 + 4 * i.toNat := by
  rw [offset_toNat_eq, offBank_bufOffset, offIndex_bufOffset, offLow_bufOffset]
  rfl

theorem isAligned_bufOffset (i : BitVec 6) : (bufOffset i).isAligned = true := by
  rw [Offset.isAligned, bufOffset_toNat, beq_iff_eq]
  omega

theorem bufOffset_offIndex {off : Offset} (h : off.isAligned = true) (hbank : offBank off = true) :
    bufOffset (offIndex off) = off := by
  apply BitVec.eq_of_toNat_eq
  rw [bufOffset_toNat, offset_toNat_of_aligned h, hbank]
  rfl

/-- The reserved offsets of R51 by their fields: the slots from CAP on, and the registers from number 9 on. -/
theorem isReserved_eq_true_iff {cap : Nat} {off : Offset} :
    off.isReserved cap = true ↔
      off.isAligned = true ∧ if offBank off = true then cap ≤ (offIndex off).toNat else 9 ≤ (offIndex off).toNat := by
  rw [Offset.isReserved, Bool.and_eq_true, Bool.or_eq_true, decide_eq_true_iff, decide_eq_true_iff]
  refine and_congr_right fun h => ?_
  have hoff := offset_toNat_of_aligned h
  have hindex := (offIndex off).isLt
  cases hbank : offBank off with
  | false =>
    rw [hbank, Bool.toNat_false] at hoff
    simp only [Bool.false_eq_true, if_false]
    omega
  | true =>
    rw [hbank, Bool.toNat_true] at hoff
    simp only [if_true]
    omega

/-! ## What the decoders answer (R82, R84, R85) -/

/-- The command table R82. -/
theorem decodeCmdw_cases (w : Word) :
    (cmdField w = 0x0#4 ∧ decodeCmdw w = .nop (rsvdField w)) ∨
    (cmdField w = 0x1#4 ∧ decodeCmdw w = .measure (rsvdField w)) ∨
    (2 ≤ (cmdField w).toNat ∧ decodeCmdw w = .cmdReserved (cmdField w) (rsvdField w)) := by
  unfold decodeCmdw
  split
  case isTrue h0 => exact .inl ⟨h0, rfl⟩
  case isFalse h0 =>
    split
    case isTrue h1 => exact .inr (.inl ⟨h1, rfl⟩)
    case isFalse h1 => exact .inr (.inr ⟨by bv_omega, rfl⟩)

/-- The rows of the offset table R84 for a read below 0x100 that name a register. -/
def registerRows : List (Offset × Instr) :=
  [(0x000#9, .rdCtrl), (0x004#9, .rdStatus), (0x008#9, .rdHum), (0x00C#9, .rdTemp), (0x010#9, .rdIdx),
    (0x014#9, .rdPrev), (0x018#9, .rdCapt), (0x01C#9, .rdCfg), (0x020#9, .rdCnt)]

/-- The offset table R84 for a read of an aligned offset: a slot, a reserved offset, or a register. -/
theorem decodeRead_cases (cap : Nat) {off : Offset} (h : off.isAligned = true) :
    (∃ i : BitVec 6, off = bufOffset i ∧ i.toNat < cap ∧ decodeRead cap off = .rdBuf i) ∨
    (off.isReserved cap = true ∧ decodeRead cap off = .rdReserved off) ∨
    (off, decodeRead cap off) ∈ registerRows := by
  have hoff := offset_toNat_of_aligned h
  rw [isReserved_eq_true_iff, and_iff_right h]
  unfold decodeRead
  split
  case isTrue hbank =>
    split
    case isTrue hcap => exact .inl ⟨offIndex off, (bufOffset_offIndex h hbank).symm, hcap, rfl⟩
    case isFalse hcap => exact .inr (.inl ⟨Nat.le_of_not_lt hcap, rfl⟩)
  case isFalse hbank =>
    have hregister : ∀ n, (offIndex off).toNat = n → off = BitVec.ofNat 9 (4 * n) := by
      rintro n rfl
      simp only [Bool.eq_false_iff.2 hbank, Bool.toNat_false, Nat.mul_zero, Nat.zero_add] at hoff
      rw [← hoff, BitVec.ofNat_toNat, BitVec.setWidth_eq]
    right
    split
    case h_10 => exact .inl ⟨by grind, rfl⟩
    all_goals
      next n hn => rw [hregister _ hn]; exact .inr (by decide)

theorem bank_index_of_mem_registerRows :
    ∀ row ∈ registerRows, offBank row.1 = false ∧ (offIndex row.1).toNat < 9 := by
  decide

theorem decodeRead_of_reserved {cap : Nat} {off : Offset} (h : off.isReserved cap = true) :
    decodeRead cap off = .rdReserved off := by
  obtain ⟨haligned, hplace⟩ := isReserved_eq_true_iff.1 h
  rcases decodeRead_cases cap haligned with ⟨i, rfl, hcap, -⟩ | ⟨-, hdecode⟩ | hrow
  · rw [offBank_bufOffset, offIndex_bufOffset, if_pos rfl] at hplace
    exact absurd hcap (Nat.not_lt.2 hplace)
  · exact hdecode
  · obtain ⟨hbank, hindex⟩ := bank_index_of_mem_registerRows _ hrow
    rw [if_neg (by simp [hbank])] at hplace
    exact absurd hindex (Nat.not_lt.2 hplace)

theorem decodeBusReq_of_illegal {r : BusReq} (cap : Nat) (h : accessIllegal r.off r.size = true) :
    decodeBusReq cap r = .busErr r.off r.size r.access :=
  if_pos h

theorem decodeBusReq_read {off : Offset} (cap : Nat) (h : off.isAligned = true) :
    decodeBusReq cap ⟨off, 4, .read⟩ = decodeRead cap off :=
  if_neg (by simp [accessIllegal_of_aligned h])

theorem decodeBusReq_write {off : Offset} (cap : Nat) (data : Word) (h : off.isAligned = true) :
    decodeBusReq cap ⟨off, 4, .write data⟩ = decodeWrite off data :=
  if_neg (by simp [accessIllegal_of_aligned h])

theorem decodeEvt_of_reserved {code : BitVec 4} (req : Option BusReq) (h : 6 ≤ code.toNat) :
    decodeEvt code req = decodePlain (.evtReserved code) req := by
  unfold decodeEvt
  split
  case h_7 => rfl
  all_goals omega

theorem decodePlain_eq_ok {i j : Instr} {req : Option BusReq} (h : decodePlain i req = .ok j) : req = none ∧ j = i := by
  cases req with
  | none => cases h; exact ⟨rfl, rfl⟩
  | some r => cases h

theorem decodeReadEvent_eq_ok {i : Instr} {req : Option BusReq} (h : decodeReadEvent req = .ok i) :
    ∃ off size, req = some ⟨off, size, .read⟩ ∧ i = .busRead off size := by
  match req, h with
  | some ⟨off, size, .read⟩, rfl => exact ⟨off, size, rfl, rfl⟩

theorem decodeWriteEvent_eq_ok {i : Instr} {req : Option BusReq} (h : decodeWriteEvent req = .ok i) :
    ∃ off size data, req = some ⟨off, size, .write data⟩ ∧ i = .busWrite off size data := by
  match req, h with
  | some ⟨off, size, .write data⟩, rfl => exact ⟨off, size, data, rfl, rfl⟩

/-! ## Decoding an encoded instruction -/

/-- The rows without an operand condition decode by computation; each of the others by its decoder's lemma, which its
condition feeds. -/
theorem decode_encode {cap : Nat} {i : Instr} (h : i.wellFormed cap = true) : decode cap (encode i) = .ok i := by
  cases i with
  | nop rsvd => simp [encode, decode, decodeCmdw]
  | measure rsvd => simp [encode, decode, decodeCmdw]
  | cmdReserved cmd rsvd =>
    have hcmd : 2 ≤ cmd.toNat := of_decide_eq_true h
    have h0 : cmd ≠ 0x0#4 := by rintro rfl; contradiction
    have h1 : cmd ≠ 0x1#4 := by rintro rfl; contradiction
    simp [encode, decode, decodeCmdw, h0, h1]
  | rdBuf i =>
    have hcap : i.toNat < cap := of_decide_eq_true h
    have hread : decodeRead cap (bufOffset i) = .rdBuf i := by simp [decodeRead, hcap]
    exact congrArg Except.ok ((decodeBusReq_read cap (isAligned_bufOffset i)).trans hread)
  | rdReserved off =>
    have haligned : off.isAligned = true := (isReserved_eq_true_iff.1 h).1
    exact congrArg Except.ok ((decodeBusReq_read cap haligned).trans (decodeRead_of_reserved h))
  | wrIgnored off data =>
    obtain ⟨haligned, hctrl⟩ : off.isAligned = true ∧ off.toNat ≠ 0 := by simpa [Instr.wellFormed] using h
    have hoff : off ≠ 0x000#9 := by rintro rfl; contradiction
    exact congrArg Except.ok ((decodeBusReq_write cap data haligned).trans (if_neg hoff))
  | busErr off size access =>
    exact congrArg Except.ok (decodeBusReq_of_illegal cap (wellFormed_busErr cap off size access ▸ h))
  | evtReserved code => exact decodeEvt_of_reserved none (of_decide_eq_true h)
  | _ => rfl

/-- Settles O1: `decode_encode`. -/
theorem decodeOfEncodeIsTheInstruction : Obligations.DecodeOfEncodeIsTheInstruction :=
  fun _ _ => decode_encode

/-! ## Encoding a decoded label -/

theorem encode_decodeCmdw (cap : Nat) (w : Word) :
    encode (decodeCmdw w) = .cmdw w ∧ (decodeCmdw w).wellFormed cap = true := by
  have hfields := cmdWord_fields w
  obtain ⟨hcmd, hdecode⟩ | ⟨hcmd, hdecode⟩ | ⟨hcmd, hdecode⟩ := decodeCmdw_cases w
  · rw [hcmd] at hfields
    rw [hdecode]
    exact ⟨congrArg Label.cmdw hfields, rfl⟩
  · rw [hcmd] at hfields
    rw [hdecode]
    exact ⟨congrArg Label.cmdw hfields, rfl⟩
  · rw [hdecode]
    exact ⟨congrArg Label.cmdw hfields, decide_eq_true hcmd⟩

theorem encode_of_mem_registerRows : ∀ row ∈ registerRows, encode row.2 = readReq row.1 := by
  decide

theorem wellFormed_of_mem_registerRows (cap : Nat) : ∀ row ∈ registerRows, row.2.wellFormed cap = true := by
  simp [registerRows, Instr.wellFormed]

theorem encode_decodeRead (cap : Nat) {off : Offset} (h : off.isAligned = true) :
    encode (decodeRead cap off) = readReq off ∧ (decodeRead cap off).wellFormed cap = true := by
  obtain ⟨i, rfl, hcap, hdecode⟩ | ⟨hreserved, hdecode⟩ | hrow := decodeRead_cases cap h
  · rw [hdecode]
    exact ⟨rfl, decide_eq_true hcap⟩
  · rw [hdecode]
    exact ⟨rfl, hreserved⟩
  · exact ⟨encode_of_mem_registerRows _ hrow, wellFormed_of_mem_registerRows cap _ hrow⟩

theorem encode_decodeWrite (cap : Nat) {off : Offset} (data : Word) (h : off.isAligned = true) :
    encode (decodeWrite off data) = .busreq ⟨off, 4, .write data⟩ ∧ (decodeWrite off data).wellFormed cap = true := by
  unfold decodeWrite
  split
  case isTrue hoff => exact hoff ▸ ⟨rfl, rfl⟩
  case isFalse hoff =>
    have hctrl : off.toNat ≠ 0 := fun h0 => hoff (BitVec.eq_of_toNat_eq h0)
    exact ⟨rfl, by simp [Instr.wellFormed, h, hctrl]⟩

theorem encode_decodeBusReq (cap : Nat) (r : BusReq) :
    encode (decodeBusReq cap r) = .busreq r ∧ (decodeBusReq cap r).wellFormed cap = true := by
  obtain ⟨off, size, access⟩ := r
  cases hlegal : accessIllegal off size with
  | true =>
    rw [decodeBusReq_of_illegal cap hlegal]
    exact ⟨rfl, (wellFormed_busErr cap off size access).trans hlegal⟩
  | false =>
    obtain ⟨rfl, haligned⟩ := accessIllegal_eq_false_iff.1 hlegal
    cases access with
    | read => exact decodeBusReq_read cap haligned ▸ encode_decodeRead cap haligned
    | write data => exact decodeBusReq_write cap data haligned ▸ encode_decodeWrite cap data haligned

/-- An event's code is that of its table row R85, or a reserved code, which its instruction carries. -/
theorem encode_of_decodeEvt (cap : Nat) {code : BitVec 4} {req : Option BusReq} {i : Instr}
    (h : decodeEvt code req = .ok i) : encode i = .evt code req ∧ i.wellFormed cap = true := by
  have hcode : ∀ n, code.toNat = n → code = BitVec.ofNat 4 n := by
    rintro n rfl
    rw [BitVec.ofNat_toNat, BitVec.setWidth_eq]
  unfold decodeEvt at h
  split at h
  case h_5 hn =>
    obtain ⟨off, size, rfl, rfl⟩ := decodeReadEvent_eq_ok h
    exact hcode _ hn ▸ ⟨rfl, rfl⟩
  case h_6 hn =>
    obtain ⟨off, size, data, rfl, rfl⟩ := decodeWriteEvent_eq_ok h
    exact hcode _ hn ▸ ⟨rfl, rfl⟩
  case h_7 =>
    obtain ⟨rfl, rfl⟩ := decodePlain_eq_ok h
    exact ⟨rfl, decide_eq_true (by grind)⟩
  all_goals
    next hn =>
    obtain ⟨rfl, rfl⟩ := decodePlain_eq_ok h
    exact hcode _ hn ▸ ⟨rfl, rfl⟩

/-- Settles O2: `decode` is one decoder per form, each with its lemma above. -/
theorem encodeOfDecodeIsTheLabel : Obligations.EncodeOfDecodeIsTheLabel := by
  intro cap l i h
  cases l with
  | cmdw w => cases h; exact encode_decodeCmdw cap w
  | busreq r => cases h; exact encode_decodeBusReq cap r
  | evt code req => exact encode_of_decodeEvt cap h

/-- Settles O3: the ten labels are the encodings of their well-formed instructions, so they decode by `decode_encode`. -/
theorem wordsOfTheTablesDecode : Obligations.WordsOfTheTablesDecode :=
  ⟨decode_encode (i := .nop 0) rfl, decode_encode (i := .measure 0xFFFFFFF#28) rfl,
    decode_encode (i := .cmdReserved 0xF#4 0) rfl, decode_encode (i := .rdHum) rfl,
    decode_encode (i := .rdBuf 59#6) rfl, decode_encode (i := .rdReserved 0x1F0#9) rfl,
    decode_encode (i := .busErr 0x004#9 2 .read) rfl, decode_encode (i := .wrCtrl 0x1#32) rfl,
    decode_encode (i := .service) rfl, decode_encode (i := .busRead 0x004#9 4) rfl⟩

namespace Machine

/-! ## Events that name no instruction (R85, R87) -/

theorem exec_evtReserved (code : BitVec 4) (s : State) : exec (.evtReserved code) s = .refused (.reservedEvent code) :=
  rfl

/-- Settles O5: a reserved code decodes to EVT.reserved, whose meaning is the refusal. -/
theorem reservedEventIsRefused : Obligations.ReservedEventIsRefused := by
  refine ⟨exec_evtReserved, fun code s rest hcode htrace => ?_⟩
  have hdecode : decodeEvent ⟨code, none⟩ = .ok (.evtReserved code) := decodeEvt_of_reserved none hcode
  exact (step_of_trace htrace hdecode).trans (exec_evtReserved code _)

/-! ## The host's accesses run their rows (R83, R84, R190, R202, R203) -/

theorem exec_busErr (off : Offset) (size : Nat) (access : Access) (s : State) :
    exec (.busErr off size access) s = busFault s off :=
  rfl

theorem exec_busRead_of_illegal {off : Offset} {size : Nat} (s : State) (h : accessIllegal off size = true) :
    exec (.busRead off size) s = busFault s off :=
  if_pos h

theorem exec_busRead_of_aligned {off : Offset} (s : State) (h : off.isAligned = true) :
    exec (.busRead off 4) s = hostRead s (readReg s.params s.freeSlots s.block off) :=
  if_neg (by simp [accessIllegal_of_aligned h])

theorem exec_busWrite_of_illegal {off : Offset} {size : Nat} (data : Word) (s : State)
    (h : accessIllegal off size = true) : exec (.busWrite off size data) s = busFault s off :=
  if_pos h

theorem exec_busWrite_of_aligned {off : Offset} (data : Word) (s : State) (h : off.isAligned = true) :
    exec (.busWrite off 4 data) s =
      if off = 0x000#9 then hostWrite s (s.block.command (cmdField data)) else hostWrite s s.block :=
  if_neg (by simp [accessIllegal_of_aligned h])

/-- A reserved offset reads 0 (R201). -/
theorem readReg_of_reserved {p : Params} {off : Offset} (free : Nat → Sample) (b : Block)
    (h : off.isReserved p.cap = true) : readReg p free b off = 0#32 := by
  obtain ⟨-, hplace⟩ := isReserved_eq_true_iff.1 h
  unfold readReg
  split at hplace
  case isTrue hbank => rw [if_pos hbank, bufWord, if_neg (Nat.not_lt.2 hplace)]
  case isFalse hbank =>
    rw [if_neg hbank]
    unfold registerWord
    split
    case h_9 => rfl
    all_goals omega

theorem exec_of_mem_registerRows (s : State) : ∀ row ∈ registerRows,
    exec row.2 s = hostRead s (readReg s.params s.freeSlots s.block row.1) := by
  simp only [registerRows, List.forall_mem_cons]
  exact ⟨rfl, rfl, rfl, rfl, rfl, rfl, rfl, rfl, rfl, nofun⟩

/-- The row that R84 selects for an aligned offset is ReadReg of that offset (R190). -/
theorem exec_decodeRead {off : Offset} (s : State) (h : off.isAligned = true) :
    exec (decodeRead s.params.cap off) s = hostRead s (readReg s.params s.freeSlots s.block off) := by
  obtain ⟨i, rfl, -, hdecode⟩ | ⟨hreserved, hdecode⟩ | hrow := decodeRead_cases s.params.cap h
  · rw [hdecode, readReg_bufOffset]
    rfl
  · rw [hdecode, readReg_of_reserved _ _ hreserved]
    rfl
  · exact exec_of_mem_registerRows s _ hrow

theorem exec_decodeWrite (off : Offset) (data : Word) (s : State) :
    exec (decodeWrite off data) s =
      if off = 0x000#9 then hostWrite s (s.block.command (cmdField data)) else hostWrite s s.block := by
  unfold decodeWrite
  split <;> rfl

theorem exec_busRead_eq_row (off : Offset) (size : Nat) (s : State) :
    exec (.busRead off size) s = exec (decodeBusReq s.params.cap ⟨off, size, .read⟩) s := by
  cases hlegal : accessIllegal off size with
  | true => rw [exec_busRead_of_illegal s hlegal, decodeBusReq_of_illegal _ hlegal, exec_busErr]
  | false =>
    obtain ⟨rfl, haligned⟩ := accessIllegal_eq_false_iff.1 hlegal
    rw [exec_busRead_of_aligned s haligned, decodeBusReq_read _ haligned, exec_decodeRead s haligned]

theorem exec_busWrite_eq_row (off : Offset) (size : Nat) (data : Word) (s : State) :
    exec (.busWrite off size data) s = exec (decodeBusReq s.params.cap ⟨off, size, .write data⟩) s := by
  cases hlegal : accessIllegal off size with
  | true => rw [exec_busWrite_of_illegal data s hlegal, decodeBusReq_of_illegal _ hlegal, exec_busErr]
  | false =>
    obtain ⟨rfl, haligned⟩ := accessIllegal_eq_false_iff.1 hlegal
    rw [exec_busWrite_of_aligned data s haligned, decodeBusReq_write _ data haligned, exec_decodeWrite]

/-- A write of CTRL runs its command; a reserved CMD is one without effect (R134, R203). -/
theorem exec_wrCtrl_eq_command (data : Word) (s : State) : exec (.wrCtrl data) s = exec (decodeCmdw data) s := by
  have hwrite : exec (.wrCtrl data) s = hostWrite s (s.block.command (cmdField data)) := rfl
  rw [hwrite]
  obtain ⟨hcmd, hdecode⟩ | ⟨hcmd, hdecode⟩ | ⟨hcmd, hdecode⟩ := decodeCmdw_cases data
  · rw [hcmd, hdecode]
    rfl
  · rw [hcmd, hdecode]
    rfl
  · have hother : cmdField data ≠ 0x1#4 := fun h1 => absurd hcmd (by rw [h1]; decide)
    rw [hdecode, Block.command, if_neg hother]
    rfl

/-- Settles O31. -/
theorem busAccessRunsItsRow : Obligations.BusAccessRunsItsRow :=
  fun off size data s =>
    ⟨exec_busRead_eq_row off size s, exec_busWrite_eq_row off size data s, exec_wrCtrl_eq_command data s⟩

/-! ## Every form runs in an event (R80, R85) -/

theorem step_of_busReq {s : State} {r : BusReq} {rest : List Event} (htrace : s.trace = r.event :: rest) :
    step s = exec (decodeBusReq s.params.cap r) { s with trace := rest } := by
  rw [step_of_trace htrace (decodeEvent_busReq r)]
  obtain ⟨off, size, access⟩ := r
  cases access with
  | read => exact exec_busRead_eq_row off size _
  | write data => exact exec_busWrite_eq_row off size data _

/-- A CMDW arrives as the request that decodes to WR.CTRL, which runs its command. -/
theorem step_of_label {s : State} {l : Label} {rest : List Event} {i : Instr} (htrace : s.trace = l.event :: rest)
    (hdecode : decode s.params.cap l = .ok i) : step s = exec i { s with trace := rest } := by
  cases l with
  | cmdw w =>
    have hstep : step s = exec (.wrCtrl w) { s with trace := rest } :=
      step_of_busReq (r := ⟨0x000#9, 4, .write w⟩) htrace
    cases hdecode
    exact hstep.trans (exec_wrCtrl_eq_command w _)
  | busreq r =>
    cases hdecode
    exact step_of_busReq htrace
  | evt code req => exact step_of_trace htrace hdecode

theorem busReq_event (r : BusReq) : r.event = ⟨if r.access = .read then 0x4#4 else 0x5#4, some r⟩ := by
  obtain ⟨off, size, access⟩ := r
  cases access <;> rfl

/-- Settles O60: the step is `step_of_label`; the events are those of `Label.event`. -/
theorem everyRowRunsAsItsEvent : Obligations.EveryRowRunsAsItsEvent :=
  ⟨fun _ _ _ _ => step_of_label, fun _ => rfl, busReq_event, fun _ _ => rfl⟩

end Machine

end Sys2Proof
end

section
/-! The edge timestamp recorder (40_capture_recorder): when an event is enabled (R106), the tick outside WINDOW (R102), the
sensor's edges (R103, R104), and the service with the level of the edge it serves (R105, R107 to R111). -/

namespace Sys2Proof.Machine

/-! ## When an event is enabled (R106) -/

theorem Block.serviceEnabled_iff {b : Block} : b.serviceEnabled = true ↔ b.armed = true ∧ b.pend = true :=
  Bool.and_eq_true_iff

theorem State.serviceOwed_iff {s : State} :
    s.serviceOwed = true ↔ s.params.svcPrompt = true ∧ s.block.armed = true ∧ s.block.pend = true := by
  rw [State.serviceOwed, Bool.and_eq_true_iff, Block.serviceEnabled_iff]

theorem exec_service_of_enabled {s : State} (h : s.block.serviceEnabled = true) :
    exec .service s = .next (s.complete (s.block.service s.params)) :=
  if_pos h

theorem exec_service_of_not_enabled {s : State} (h : ¬ s.block.serviceEnabled = true) :
    exec .service s = .refused .serviceNotEnabled :=
  if_neg h

/-- Every event of R85's table but SERVICE has a next state, which an owed service alone holds up. -/
theorem exec_eq_unlessOwed {i : Instr} (s : State) (hevent : i.isEvent = true) (hi : i ≠ .service) :
    ∃ n, exec i s = unlessOwed s n := by
  cases i with
  | service => exact absurd rfl hi
  | evtReserved code => cases hevent
  | busRead off size =>
    simp only [exec, execBusRead]
    split <;> exact ⟨_, rfl⟩
  | busWrite off size data =>
    simp only [exec, execBusWrite]
    split
    · exact ⟨_, rfl⟩
    · split <;> exact ⟨_, rfl⟩
  | _ => exact ⟨_, rfl⟩

/-- Settles O6: SERVICE branches on its enabling; every other event is `exec_eq_unlessOwed`. -/
theorem promptServiceHold : Obligations.PromptServiceHold := by
  intro s
  rw [← State.serviceOwed_iff, ← Block.serviceEnabled_iff]
  refine ⟨⟨fun ⟨t, ht⟩ => ?_, fun hen => ⟨_, exec_service_of_enabled hen⟩⟩, exec_service_of_not_enabled,
    fun hprompt harmed hpend i hevent hi => ?_, fun howed i hevent hi => ?_⟩
  · by_contra hen
    cases (exec_service_of_not_enabled hen).symm.trans ht
  · obtain ⟨n, hn⟩ := exec_eq_unlessOwed s hevent hi
    rw [hn, unlessOwed_of_owed n (State.serviceOwed_iff.2 ⟨hprompt, harmed, hpend⟩)]
  · obtain ⟨n, hn⟩ := exec_eq_unlessOwed s hevent hi
    exact ⟨n, by rw [hn, unlessOwed_of_not_owed n (Bool.eq_false_of_not_eq_true howed)]⟩

/-! ## The service (R105, R108, R109) -/

theorem Block.service_of_high (p : Params) {b : Block} (hwire : b.wire = true) :
    b.service p = { b with pend := false, pol := .fall, prev := b.capt } := by
  rcases b.service_cases p with ⟨-, hs⟩ | ⟨hlow, -⟩ | ⟨hlow, -⟩
  · exact hs
  all_goals simp [hwire] at hlow

theorem Block.service_of_low {p : Params} {b : Block} (hwire : b.wire = false) (hcap : b.idx.toNat < p.cap) :
    b.service p = { b with pend := false, pol := .rise, prev := b.capt, idx := b.idx + 1,
                           buf := b.buf.write b.idx.toNat (b.capt - b.prev) } := by
  rcases b.service_cases p with ⟨hhigh, -⟩ | ⟨-, -, hs⟩ | ⟨-, hfull, -⟩
  · simp [hwire] at hhigh
  · exact hs
  · omega

theorem Block.service_of_full {p : Params} {b : Block} (hwire : b.wire = false) (hfull : p.cap ≤ b.idx.toNat) :
    b.service p = { b with pend := false, pol := .rise, prev := b.capt, ovf := true } := by
  rcases b.service_cases p with ⟨hhigh, -⟩ | ⟨-, hcap, -⟩ | ⟨-, -, hs⟩
  · simp [hwire] at hhigh
  · omega
  · exact hs

theorem Block.service_prev (p : Params) (b : Block) : (b.service p).prev = b.capt := by
  rcases b.service_cases p with ⟨-, hs⟩ | ⟨-, -, hs⟩ | ⟨-, -, hs⟩ <;> rw [hs]

/-- The polarity is set from the line level (R109). -/
theorem Block.service_pol (p : Params) (b : Block) : (b.service p).pol = if b.wire then .fall else .rise := by
  rcases b.service_cases p with ⟨hwire, hs⟩ | ⟨hwire, -, hs⟩ | ⟨hwire, -, hs⟩ <;> simp [hs, hwire]

/-- POL toggles where the line's level is the one that the edge it selects leaves (R109). -/
theorem Block.service_pol_ne {p : Params} {b : Block} (h : b.wire = false ↔ b.pol = .fall) :
    (b.service p).pol ≠ b.pol := by
  rw [Block.service_pol]
  cases hwire : b.wire with
  | false => simp [h.1 hwire]
  | true => exact fun hfall => absurd (h.2 hfall.symm) (by simp [hwire])

/-- Settles O22, branch by branch; the new buffer is the one with slot IDX written. -/
theorem serviceHandlesTheCapture : Obligations.ServiceHandlesTheCapture := by
  intro s harmed hpend
  have hserve : ∃ e, exec .service s = .next { s with block := s.block.service s.params, epoch := e } :=
    ⟨_, exec_service_of_enabled (Block.serviceEnabled_iff.2 ⟨harmed, hpend⟩)⟩
  refine ⟨fun hwire => ?_, fun hwire hcap => ?_, fun hwire hfull => ?_⟩
  · rwa [Block.service_of_high _ hwire] at hserve
  · rw [Block.service_of_low hwire hcap] at hserve
    exact ⟨_, Buffer.read_write_same _ _ _, fun j hj => Buffer.read_write_other _ _ _ _ hj, hserve⟩
  · rwa [Block.service_of_full hwire hfull] at hserve

/-- Settles O23: POL and PREV in every branch; the sample is the recorder's on the low branch only. -/
theorem serviceIsTheRecorder : Obligations.ServiceIsTheRecorder := by
  intro s harmed hpend
  refine ⟨_, exec_service_of_enabled (Block.serviceEnabled_iff.2 ⟨harmed, hpend⟩), ?_, fun hnone => ?_,
    fun v hsample => ?_, fun pol => (Block.service_pol _ _).symm, Block.service_pol_ne⟩
  · exact Prod.ext (Block.service_pol _ _) (Block.service_prev _ _)
  · have hwire : s.block.wire = true := by simpa [recorder] using hnone
    simp [Block.service_of_high _ hwire]
  · obtain ⟨hwire, rfl⟩ : s.block.wire = false ∧ interval s.block.capt s.block.prev = v := by
      simpa [recorder] using hsample
    refine ⟨fun hcap => ?_, fun hfull => ?_⟩
    · simp [Block.service_of_low hwire hcap, interval]
    · simp [Block.service_of_full hwire hfull]

/-! ## The level of a capture's own edge (R111) -/

/-- POL selects the edge to `level` exactly where `level` is low for FALL and high for RISE (R24). -/
theorem Polarity.selects_iff (pol : Polarity) (level : Bool) :
    pol.selects level = true ↔ (level = false ↔ pol = .fall) := by
  cases pol <;> cases level <;> simp [Polarity.selects]

theorem Block.wireUpdate_selects {old : Bool} {b : Block} (hpend : b.pend = false)
    (h : (b.wireUpdate old).pend = true) : (b.wireUpdate old).pol.selects (b.wireUpdate old).wire = true := by
  rw [Block.wireUpdate_wire]
  simp only [Block.wireUpdate_eq, hpend, Bool.or_false, Bool.and_eq_true] at h ⊢
  exact h.2

/-- MEASURE clears PEND before it drives the line low, so what is pending after it is the drive's own edge (R219d). -/
theorem Block.acceptMeasure_selects {b : Block} (h : b.acceptMeasure.pend = true) :
    b.acceptMeasure.pol.selects b.acceptMeasure.wire = true :=
  Block.wireUpdate_selects rfl h

theorem Block.setSensor_selects {v : Bool} {b : Block} (hpend : b.pend = false) (h : (b.setSensor v).pend = true) :
    (b.setSensor v).pol.selects (b.setSensor v).wire = true :=
  Block.wireUpdate_selects (b := { b with sensorOut := v }) hpend h

theorem Block.tick_selects {p : Params} {free : Nat → Sample} {freePt : BitVec 32} {b : Block} (hpend : b.pend = false)
    (h : (b.tick p free freePt).pend = true) :
    (b.tick p free freePt).pol.selects (b.tick p free freePt).wire = true := by
  rcases b.tick_cases p free freePt with ⟨-, ht⟩ | ⟨-, -, ht⟩ | ⟨-, -, ht⟩ | ⟨-, -, ht⟩ | ⟨-, -, ht⟩
  case inr.inr.inl =>
    rw [ht] at h ⊢
    exact Block.wireUpdate_selects hpend h
  all_goals simp [ht, hpend] at h

/-- A step that leaves a capture pending where none was made it by an edge that POL selects. -/
theorem exec_selects {i : Instr} {s t : State} (h : exec i s = .next t) (hpend : s.block.pend = false)
    (hset : t.block.pend = true) : t.block.pol.selects t.block.wire = true := by
  rcases exec_block_cases h with ⟨-, hb⟩ | ⟨-, -, hb⟩ | ⟨-, hb⟩ | ⟨-, v, hb⟩ | ⟨-, -, hb⟩ <;> rw [hb] at hset ⊢
  · simp [hpend] at hset
  · exact Block.acceptMeasure_selects hset
  · exact Block.tick_selects hpend hset
  · exact Block.setSensor_selects hpend hset
  · simp at hset

/-- Settles O25: armed and with no service owed, nothing was pending before the step, so `exec_selects` gives the level
that the service reads. -/
theorem promptServiceSeesItsOwnEdge : Obligations.PromptServiceSeesItsOwnEdge := by
  intro i s t hprompt harmed howed h harmed' hpend'
  have hpend : s.block.pend = false := by
    by_contra hp
    simp [State.serviceOwed_iff.2 ⟨hprompt, harmed, Bool.eq_true_of_not_eq_false hp⟩] at howed
  have hlevel : t.block.wire = false ↔ t.block.pol = .fall :=
    (Polarity.selects_iff _ _).1 (exec_selects h hpend hpend')
  exact ⟨hlevel, _, exec_service_of_enabled (Block.serviceEnabled_iff.2 ⟨harmed', hpend'⟩),
    Block.service_pol_ne hlevel⟩

/-! ## Ticks outside WINDOW (R102, R135, R136) -/

/-- With no service owed, a step that ends with the block `b` changes nothing else but the epoch. -/
theorem unlessOwed_complete {s : State} (b : Block) (h : s.serviceOwed = false) :
    ∃ e, unlessOwed s (s.complete b) = .next { s with block := b, epoch := e } :=
  ⟨s.epoch + 1, unlessOwed_of_not_owed _ h⟩

theorem exec_tick_of_not_owed {s : State} (h : s.serviceOwed = false) :
    ∃ e, exec .tick s = .next { s with block := s.block.tick s.params s.freeSlots s.freeTimer, epoch := e } :=
  unlessOwed_complete _ h

theorem Block.tick_of_idle_or_done {p : Params} {free : Nat → Sample} {freePt : BitVec 32} {b : Block}
    (h : b.phase = .idle ∨ b.phase = .done) : b.tick p free freePt = { b with cnt := b.cnt + 1 } := by
  rcases b.tick_cases p free freePt with ⟨-, ht⟩ | ⟨hp, -⟩ | ⟨hp, -⟩ | ⟨hp, -⟩ | ⟨hp, -⟩
  · exact ht
  all_goals simp [hp] at h

/-- A tick in TRIG counts, and where the count meets TRIG_TICKS it ends the trigger instead. -/
theorem Block.tick_of_trig (p : Params) (free : Nat → Sample) (freePt : BitVec 32) {b : Block} (h : b.phase = .trig) :
    b.tick p free freePt =
      if (timerSucc freePt b.pt).toNat = p.trigTicks then
        { b with cnt := b.cnt + 1, armed := true, phase := .window, pt := 0 }.setDrive false
      else { b with cnt := b.cnt + 1, pt := timerSucc freePt b.pt } := by
  rcases b.tick_cases p free freePt with ⟨hbusy, -⟩ | ⟨-, hne, ht⟩ | ⟨-, heq, ht⟩ | ⟨hp, -⟩ | ⟨hp, -⟩
  · simp [Block.busy, h] at hbusy
  · rw [ht, if_neg hne]
  · rw [ht, if_pos heq]
  all_goals simp [h] at hp

/-- Settles O7. -/
theorem tickOutsideACycleOnlyCounts : Obligations.TickOutsideACycleOnlyCounts := by
  intro s howed hphase
  have htick := exec_tick_of_not_owed howed
  rwa [Block.tick_of_idle_or_done hphase] at htick

/-- Settles O8: `v` is `timerSucc`, and the release in closed form is `Block.setDrive_false_eq`. -/
theorem tickInTheTrigger : Obligations.TickInTheTrigger := by
  intro s howed hphase
  have htick := exec_tick_of_not_owed howed
  rw [Block.tick_of_trig _ _ _ hphase] at htick
  refine ⟨timerSucc s.freeTimer s.block.pt, timerSucc_eq, fun hne => ?_, fun heq => ?_⟩
  · rwa [if_neg hne] at htick
  · rwa [if_pos heq, Block.setDrive_false_eq] at htick

/-! ## The sensor's edges (R103, R104) -/

/-- Settles O20. -/
theorem sensorLowPullsTheLine : Obligations.SensorLowPullsTheLine := by
  intro s howed
  rw [← Block.setSensor_false_eq]
  exact unlessOwed_complete _ howed

/-- While the block does not drive the line, WIRE is the sensor's own driver (R34). -/
theorem Block.wire_of_not_driven {b : Block} (h : b.drive = false) : b.wire = b.sensorOut := by
  simp [Block.wire, h]

theorem Block.wire_low_undriven_iff {b : Block} {q : Prop} :
    (b.wire = false ∧ b.drive = false ∧ q) ↔ (b.sensorOut = false ∧ b.drive = false ∧ q) :=
  and_congr_left fun h => by rw [Block.wire_of_not_driven h.1]

/-- Settles O21: the line rises exactly where the sensor alone held it low. -/
theorem sensorReleaseFreesTheLine : Obligations.SensorReleaseFreesTheLine := by
  intro s howed
  have hstep : ∃ e, exec .sensorRelease s = .next { s with block := s.block.setSensor true, epoch := e } :=
    unlessOwed_complete _ howed
  simpa only [Block.setSensor_true_eq, Block.wire_low_undriven_iff] using hstep

/-! ## The interval (R107) -/

/-- Settles O24: subtraction modulo 2^16 cancels the start, wherever the counter wraps. -/
theorem intervalIsWrapSafe : Obligations.IntervalIsWrapSafe := by
  refine ⟨fun start n => ?_, by decide⟩
  rw [interval, BitVec.ofNat_add, BitVec.add_comm, BitVec.add_sub_cancel]

end Sys2Proof.Machine
end

section
/-! The acquisition sequencer (41_sequencer): the commands of CTRL in every form (R131 to R134), the tick in WINDOW (R137,
R138), the arrows of PHASE (R130, R139, R141), and how many ticks TRIG and WINDOW last (R142). -/

namespace Sys2Proof.Machine

/-! ## Busy and owed -/

theorem Block.busy_eq_true_iff {b : Block} : b.busy = true ↔ b.phase = .trig ∨ b.phase = .window := by
  simp [Block.busy]

theorem Block.busy_eq_false_iff {b : Block} : b.busy = false ↔ b.phase = .idle ∨ b.phase = .done := by
  unfold Block.busy
  cases b.phase <;> simp

theorem State.not_owed_of_not_armed {s : State} (h : s.block.armed = false) : s.serviceOwed = false := by
  simp [State.serviceOwed, Block.serviceEnabled, h]

theorem State.not_owed_of_not_pend {s : State} (h : s.block.pend = false) : s.serviceOwed = false := by
  simp [State.serviceOwed, Block.serviceEnabled, h]

/-! ## The commands of CTRL (R131 to R134, R203) -/

theorem Block.measure_of_busy {b : Block} (h : b.busy = true) : b.measure = b :=
  if_pos h

theorem Block.measure_of_not_busy {b : Block} (h : b.busy = false) : b.measure = b.acceptMeasure :=
  if_neg (by simp [h])

theorem Block.command_of_ne_one {cmd : BitVec 4} (h : cmd ≠ 0x1#4) (b : Block) : b.command cmd = b :=
  if_neg h

theorem exec_wrCtrl (data : Word) (s : State) :
    exec (.wrCtrl data) s = unlessOwed s (s.finishWrite (s.block.command (cmdField data))) :=
  rfl

theorem exec_busWrite_ctrl (data : Word) (s : State) : exec (.busWrite 0x000#9 4 data) s = exec (.wrCtrl data) s :=
  exec_busWrite_of_aligned data s rfl

/-- MEASURE is one write, in whichever form it arrives (R131). -/
theorem exec_of_isMeasure {i : Instr} (h : i.isMeasure = true) (s : State) :
    exec i s = unlessOwed s (s.finishWrite s.block.measure) := by
  have hctrl : ∀ data, cmdField data = 0x1#4 →
      exec (.wrCtrl data) s = unlessOwed s (s.finishWrite s.block.measure) := by
    intro data hcmd
    rw [exec_wrCtrl, hcmd]
    rfl
  cases i with
  | measure rsvd => rfl
  | wrCtrl data => exact hctrl data (beq_iff_eq.1 h)
  | busWrite off size data =>
    obtain ⟨⟨rfl, rfl⟩, hcmd⟩ : (size = 4 ∧ off = 0x000#9) ∧ cmdField data = 0x1#4 := by
      simpa [Instr.isMeasure] using h
    exact (exec_busWrite_ctrl data s).trans (hctrl data hcmd)
  | _ => cases h

/-- A NOP or a reserved command is a write that leaves the block as it was, in whichever form it arrives (R133, R134). -/
theorem exec_of_isNop_or_isReservedCommand {i : Instr} (h : i.isNop = true ∨ i.isReservedCommand = true) (s : State) :
    exec i s = unlessOwed s (s.finishWrite s.block) := by
  have hctrl : ∀ data, cmdField data = 0x0#4 ∨ 2 ≤ (cmdField data).toNat →
      exec (.wrCtrl data) s = unlessOwed s (s.finishWrite s.block) := by
    intro data hcmd
    have hne : cmdField data ≠ 0x1#4 := fun h1 => absurd hcmd (by rw [h1]; decide)
    rw [exec_wrCtrl, Block.command_of_ne_one hne]
  cases i with
  | nop rsvd => rfl
  | cmdReserved cmd rsvd => rfl
  | wrCtrl data => exact hctrl data (by simpa [Instr.isNop, Instr.isReservedCommand] using h)
  | busWrite off size data =>
    obtain ⟨⟨rfl, rfl⟩, hcmd⟩ :
        (size = 4 ∧ off = 0x000#9) ∧ (cmdField data = 0x0#4 ∨ 2 ≤ (cmdField data).toNat) := by
      simpa [Instr.isNop, Instr.isReservedCommand, and_or_left] using h
    exact (exec_busWrite_ctrl data s).trans (hctrl data hcmd)
  | _ => exact absurd h (by simp [Instr.isNop, Instr.isReservedCommand])

/-- With no service owed, a write that leaves the block as `b` changes nothing else but the response and the epoch. -/
theorem unlessOwed_finishWrite {s : State} (b : Block) (h : s.serviceOwed = false) :
    ∃ e, unlessOwed s (s.finishWrite b) = .next { s with block := b, resp := .written, epoch := e } :=
  ⟨s.epoch + 1, unlessOwed_of_not_owed _ h⟩

theorem exec_measure_of_not_busy {i : Instr} {s : State} (hm : i.isMeasure = true) (howed : s.serviceOwed = false)
    (hbusy : s.block.busy = false) :
    ∃ e, exec i s = .next { s with block := s.block.acceptMeasure, resp := .written, epoch := e } := by
  rw [exec_of_isMeasure hm, Block.measure_of_not_busy hbusy]
  exact unlessOwed_finishWrite _ howed

/-- Settles O27: the new block in closed form is `Block.acceptMeasure_eq`. -/
theorem measureStartsACycle : Obligations.MeasureStartsACycle := by
  intro i s hm howed hphase
  rw [← Block.acceptMeasure_eq]
  exact exec_measure_of_not_busy hm howed (Block.busy_eq_false_iff.2 hphase)

/-- Settles O28. -/
theorem measureIsIgnoredWhileBusy : Obligations.MeasureIsIgnoredWhileBusy := by
  intro i s hm howed hphase
  rw [exec_of_isMeasure hm, Block.measure_of_busy (Block.busy_eq_true_iff.2 hphase)]
  exact unlessOwed_finishWrite _ howed

/-- Settles O29. -/
theorem nopHasNoEffect : Obligations.NopHasNoEffect := by
  intro i s hnop howed
  rw [exec_of_isNop_or_isReservedCommand (.inl hnop)]
  exact unlessOwed_finishWrite _ howed

/-- Settles O30: CMD is the low four bits of CMDW, so 0x11 is MEASURE. -/
theorem reservedCommandHasNoEffect : Obligations.ReservedCommandHasNoEffect := by
  refine ⟨fun i s hreserved howed => ?_, by decide⟩
  rw [exec_of_isNop_or_isReservedCommand (.inr hreserved)]
  exact unlessOwed_finishWrite _ howed

/-! ## The tick in WINDOW (R137, R138) -/

/-- A tick in WINDOW counts, and where the count meets WIN_TICKS it ends the window instead. -/
theorem Block.tick_of_window (p : Params) (free : Nat → Sample) (freePt : BitVec 32) {b : Block}
    (h : b.phase = .window) :
    b.tick p free freePt =
      if (timerSucc freePt b.pt).toNat = p.winTicks then
        { { b with cnt := b.cnt + 1, armed := false, pt := timerSucc freePt b.pt }.decodeFrame p free with
          phase := .done, pt := 0 }
      else { b with cnt := b.cnt + 1, pt := timerSucc freePt b.pt } := by
  rcases b.tick_cases p free freePt with ⟨hbusy, -⟩ | ⟨hp, -⟩ | ⟨hp, -⟩ | ⟨-, hne, ht⟩ | ⟨-, heq, ht⟩
  · simp [Block.busy, h] at hbusy
  · simp [h] at hp
  · simp [h] at hp
  · rw [ht, if_neg hne]
  · rw [ht, if_pos heq]

/-- `Block.decodeFrame_frame` as one update (R160). -/
theorem Block.decodeFrame_eq (p : Params) (free : Nat → Sample) (b : Block) :
    b.decodeFrame p free = { b with
      idx := (b.decodeFrame p free).idx, valid := (b.decodeFrame p free).valid, hum := (b.decodeFrame p free).hum,
      temp := (b.decodeFrame p free).temp, lastCause := (b.decodeFrame p free).lastCause } := by
  rcases b.decodeFrame_cases p free with ⟨-, h⟩ | ⟨-, h, -⟩ | ⟨-, h, -⟩ <;> rw [h] <;> rfl

/-- Settles O9: `v` is `timerSucc`; what the decode writes is `Block.decodeFrame_eq`. -/
theorem tickInTheWindow : Obligations.TickInTheWindow := by
  intro s howed hphase
  have htick := exec_tick_of_not_owed howed
  rw [Block.tick_of_window _ _ _ hphase] at htick
  refine ⟨timerSucc s.freeTimer s.block.pt, timerSucc_eq, fun hne => ?_, fun heq => ?_⟩
  · rwa [if_neg hne] at htick
  · rw [if_pos heq, Block.decodeFrame_eq] at htick
    exact ⟨_, _, _, _, _, htick⟩

/-! ## The arrows of PHASE (R130) -/

/-- A tick keeps PHASE, or ends TRIG or WINDOW as PT reaches its count. -/
theorem Block.tick_phase_cases (p : Params) (free : Nat → Sample) (freePt : BitVec 32) (b : Block) :
    (b.tick p free freePt).phase = b.phase ∨
    (b.phase = .trig ∧ (b.tick p free freePt).phase = .window ∧ (timerSucc freePt b.pt).toNat = p.trigTicks) ∨
    (b.phase = .window ∧ (b.tick p free freePt).phase = .done ∧ (timerSucc freePt b.pt).toNat = p.winTicks) := by
  rcases b.tick_cases p free freePt with ⟨-, ht⟩ | ⟨-, -, ht⟩ | ⟨hp, heq, ht⟩ | ⟨-, -, ht⟩ | ⟨hp, heq, ht⟩ <;> rw [ht]
  case inr.inr.inl => exact .inr (.inl ⟨hp, by simp, heq⟩)
  case inr.inr.inr.inr => exact .inr (.inr ⟨hp, rfl, heq⟩)
  all_goals exact .inl rfl

/-- Settles O42: of what an instruction can do to the block, only an accepted MEASURE and a tick move PHASE. -/
theorem phaseMovesOnlyAlongItsArrows : Obligations.PhaseMovesOnlyAlongItsArrows := by
  intro i s t h hmove
  rcases exec_block_cases h with ⟨-, hb⟩ | ⟨hm, hbusy, hb⟩ | ⟨hi, hb⟩ | ⟨-, v, hb⟩ | ⟨-, -, hb⟩ <;> rw [hb] at hmove ⊢
  · exact absurd rfl hmove
  · exact .inl ⟨Block.busy_eq_false_iff.1 hbusy, by simp [Block.acceptMeasure], hm⟩
  · rcases s.block.tick_phase_cases s.params s.freeSlots s.freeTimer with hkeep | ⟨hp, hp', heq⟩ | ⟨hp, hp', heq⟩
    · exact absurd hkeep hmove
    · exact .inr (.inl ⟨hp, hp', hi, fun hfits => timerSucc_toNat hfits ▸ heq⟩)
    · exact .inr (.inr ⟨hp, hp', hi, fun hfits => timerSucc_toNat hfits ▸ heq⟩)
  · simp at hmove
  · simp at hmove

/-- Settles O47: the frames of the sensor's events and of SERVICE; a MEASURE is accepted outside TRIG and WINDOW only. -/
theorem runningCycleCannotBeEnded : Obligations.RunningCycleCannotBeEnded := by
  intro i s t h hphase hi
  rcases exec_block_cases h with ⟨-, hb⟩ | ⟨-, hbusy, -⟩ | ⟨hi', -⟩ | ⟨-, v, hb⟩ | ⟨-, -, hb⟩
  · simp [hb]
  · simp [Block.busy_eq_true_iff.2 hphase] at hbusy
  · exact absurd hi' hi
  · simp [hb]
  · simp [hb]

/-- Settles O48: in DONE the block is not armed, so SERVICE is not enabled; a tick and the sensor's events leave the
results and the recorder alone. -/
theorem doneHoldsTheResults : Obligations.DoneHoldsTheResults := by
  intro i s hs hdone
  have harmed : s.block.armed = false :=
    hs.block_inv.not_armed_of_not_busy (Block.busy_eq_false_iff.2 (.inr hdone))
  have hservice : ¬ s.block.serviceEnabled = true := by simp [Block.serviceEnabled, harmed]
  refine ⟨exec_service_of_not_enabled hservice, fun hm t h => ?_⟩
  rcases exec_block_cases h with ⟨-, hb⟩ | ⟨hm', -, -⟩ | ⟨-, hb⟩ | ⟨-, v, hb⟩ | ⟨-, hen, -⟩
  · simp [hb, hdone]
  · simp [hm] at hm'
  · rw [hb, Block.tick_of_idle_or_done (.inr hdone)]
    simp [hdone]
  · simp [hb, hdone]
  · exact absurd hen hservice

/-! ## Runs of ticks (R89, R90) -/

theorem runEvents_append {s t : State} {xs : List Event} (ys : List Event) (h : runEvents xs s = .next t) :
    runEvents (xs ++ ys) s = runEvents ys t := by
  induction xs generalizing s with
  | nil => cases h; rfl
  | cons ev rest ih =>
    simp only [List.cons_append, runEvents] at h ⊢
    split at h
    case h_1 => exact ih h
    all_goals cases h

theorem runEvents_singleton {ev : Event} {i : Instr} (hdecode : decodeEvent ev = .ok i) (s : State) :
    runEvents [ev] s = exec i s := by
  simp only [runEvents, runEvent, hdecode]
  cases exec i s <;> rfl

/-- The last of `n + 1` ticks runs where the first `n` end. -/
theorem runEvents_ticks_succ {s t : State} {n : Nat} (h : runEvents (ticks n) s = .next t) :
    runEvents (ticks (n + 1)) s = exec .tick t := by
  have hlast : ticks (n + 1) = ticks n ++ [⟨0x0#4, none⟩] := List.replicate_succ'
  rw [hlast, runEvents_append _ h]
  exact runEvents_singleton rfl t

/-! ## Ticks below the count (R135, R137) -/

/-- The block is in a phase whose timer runs to `k` ticks: TRIG to TRIG_TICKS, WINDOW to WIN_TICKS. -/
def Block.CountsTo (p : Params) (k : Nat) (b : Block) : Prop :=
  (b.phase = .trig ∧ p.trigTicks = k) ∨ (b.phase = .window ∧ p.winTicks = k)

/-- `n` ticks counted in CNT and PT. -/
def Block.counted (n : Nat) (b : Block) : Block :=
  { b with cnt := b.cnt + BitVec.ofNat 16 n, pt := b.pt + BitVec.ofNat 32 n }

@[simp] theorem Block.counted_zero (b : Block) : b.counted 0 = b := by
  simp [Block.counted]

theorem Block.counted_succ (n : Nat) (b : Block) :
    b.counted (n + 1) = { b.counted n with cnt := (b.counted n).cnt + 1, pt := (b.counted n).pt + 1 } := by
  simp only [Block.counted, BitVec.ofNat_add, BitVec.add_assoc]
  rfl

theorem Block.counted_pt_toNat {n : Nat} {b : Block} (h : b.pt.toNat + n < 2 ^ 32) :
    (b.counted n).pt.toNat = b.pt.toNat + n := by
  simp only [Block.counted, BitVec.toNat_add, BitVec.toNat_ofNat, Nat.add_mod_mod]
  exact Nat.mod_eq_of_lt h

/-- A tick that does not reach the count adds to CNT and PT only. -/
theorem Block.tick_of_lt {p : Params} {k : Nat} {b : Block} (free : Nat → Sample) (freePt : BitVec 32)
    (hcount : b.CountsTo p k) (hk : k < 2 ^ 32) (hn : b.pt.toNat + 1 < k) :
    b.tick p free freePt = { b with cnt := b.cnt + 1, pt := b.pt + 1 } := by
  have hfits : b.pt.toNat + 1 < 2 ^ 32 := hn.trans hk
  rcases hcount with ⟨hphase, rfl⟩ | ⟨hphase, rfl⟩
  · rw [Block.tick_of_trig p free freePt hphase, timerSucc_toNat hfits, timerSucc_eq hfits, if_neg hn.ne]
  · rw [Block.tick_of_window p free freePt hphase, timerSucc_toNat hfits, timerSucc_eq hfits, if_neg hn.ne]

/-- The tick that reaches TRIG_TICKS releases the line and arms the block (R136). -/
theorem Block.tick_ends_trig {p : Params} {b : Block} (free : Nat → Sample) (freePt : BitVec 32)
    (hphase : b.phase = .trig) (hk : p.trigTicks < 2 ^ 32) (hn : b.pt.toNat + 1 = p.trigTicks) :
    (b.tick p free freePt).phase = .window ∧ (b.tick p free freePt).drive = false ∧
      (b.tick p free freePt).armed = true ∧ (b.tick p free freePt).pt = 0 := by
  rw [Block.tick_of_trig p free freePt hphase, timerSucc_toNat (hn ▸ hk), if_pos hn]
  simp

/-- The tick that reaches WIN_TICKS ends the cycle and disarms the block (R138). -/
theorem Block.tick_ends_window {p : Params} {b : Block} (free : Nat → Sample) (freePt : BitVec 32)
    (hphase : b.phase = .window) (hk : p.winTicks < 2 ^ 32) (hn : b.pt.toNat + 1 = p.winTicks) :
    (b.tick p free freePt).phase = .done ∧ (b.tick p free freePt).armed = false := by
  rw [Block.tick_of_window p free freePt hphase, timerSucc_toNat (hn ▸ hk), if_pos hn]
  simp

section RunsOfTicks

variable {s : State} {k n : Nat}

/-- Ticks that only count leave no service owed, so one more tick runs. -/
theorem runEvents_ticks_succ_of_counted {e : Nat} (howed : s.serviceOwed = false)
    (hrun : runEvents (ticks n) s = .next { s with block := s.block.counted n, epoch := e }) :
    ∃ free freePt e', runEvents (ticks (n + 1)) s =
      .next { s with block := (s.block.counted n).tick s.params free freePt, epoch := e' } := by
  obtain ⟨e', htick⟩ := exec_tick_of_not_owed (s := { s with block := s.block.counted n, epoch := e }) howed
  exact ⟨_, _, e', (runEvents_ticks_succ hrun).trans htick⟩

/-- Ticks that do not reach the count of the phase change CNT and PT only. -/
theorem runEvents_ticks_of_lt (howed : s.serviceOwed = false) (hcount : s.block.CountsTo s.params k) (hk : k < 2 ^ 32)
    (hn : s.block.pt.toNat + n < k) :
    ∃ e, runEvents (ticks n) s = .next { s with block := s.block.counted n, epoch := e } := by
  induction n with
  | zero => exact ⟨s.epoch, by rw [Block.counted_zero]; rfl⟩
  | succ n ih =>
    obtain ⟨e, hrun⟩ := ih (by omega)
    obtain ⟨free, freePt, e', hsucc⟩ := runEvents_ticks_succ_of_counted howed hrun
    have hpt : (s.block.counted n).pt.toNat = s.block.pt.toNat + n := Block.counted_pt_toNat (by omega)
    have htick : (s.block.counted n).tick s.params free freePt = s.block.counted (n + 1) :=
      (Block.tick_of_lt (b := s.block.counted n) free freePt hcount hk (by omega)).trans
        (Block.counted_succ n s.block).symm
    exact ⟨e', htick ▸ hsucc⟩

/-- Ticks up to the count of the phase: they change CNT and PT only, or the last of them runs on a block of that phase
whose PT is one short of the count. -/
theorem runEvents_ticks_cases (howed : s.serviceOwed = false) (hcount : s.block.CountsTo s.params k) (hk : k < 2 ^ 32)
    (hpt : s.block.pt.toNat < k) (hn : s.block.pt.toNat + n ≤ k) :
    (s.block.pt.toNat + n < k ∧
      ∃ e, runEvents (ticks n) s = .next { s with block := s.block.counted n, epoch := e }) ∨
    (s.block.pt.toNat + n = k ∧
      ∃ (b : Block) (free : Nat → Sample) (freePt : BitVec 32) (e : Nat),
        b.phase = s.block.phase ∧ b.pt.toNat + 1 = k ∧
        runEvents (ticks n) s = .next { s with block := b.tick s.params free freePt, epoch := e }) := by
  rcases hn.lt_or_eq with hlt | heq
  · exact .inl ⟨hlt, runEvents_ticks_of_lt howed hcount hk hlt⟩
  · obtain ⟨m, rfl⟩ : ∃ m, n = m + 1 := ⟨n - 1, by omega⟩
    have hlast : (s.block.counted m).pt.toNat = s.block.pt.toNat + m := Block.counted_pt_toNat (by omega)
    obtain ⟨e, hrun⟩ := runEvents_ticks_of_lt howed hcount hk (n := m) (by omega)
    obtain ⟨free, freePt, e', hsucc⟩ := runEvents_ticks_succ_of_counted howed hrun
    exact .inr ⟨heq, s.block.counted m, free, freePt, e', rfl, by omega, hsucc⟩

end RunsOfTicks

/-! ## How long TRIG and WINDOW last (R142) -/

/-- From any point of TRIG the ticks left of TRIG_TICKS keep the line low and the block unarmed, so that no service is
owed, and the last of them arms it. -/
theorem runEvents_ticks_of_trig {s : State} {n : Nat} (hs : s.Inv) (hphase : s.block.phase = .trig)
    (hk : s.params.trigTicks < 2 ^ 32) (hn : s.block.pt.toNat + n ≤ s.params.trigTicks) :
    ∃ t : State, runEvents (ticks n) s = .next t ∧
      (s.block.pt.toNat + n < s.params.trigTicks →
        t.block.phase = .trig ∧ t.block.drive = true ∧ t.block.armed = false) ∧
      (s.block.pt.toNat + n = s.params.trigTicks →
        t.block.phase = .window ∧ t.block.drive = false ∧ t.block.armed = true ∧ t.block.pt = 0) := by
  have hdrive : s.block.drive = true := hs.block_inv.drive_iff.2 hphase
  have harmed : s.block.armed = false :=
    Bool.eq_false_of_not_eq_true fun harmed => by simp [hs.block_inv.armed_iff.1 harmed] at hphase
  have howed : s.serviceOwed = false := State.not_owed_of_not_armed harmed
  rcases runEvents_ticks_cases howed (.inl ⟨hphase, rfl⟩) hk (hs.block_inv.pt_trig hphase) hn with
    ⟨hlt, e, hrun⟩ | ⟨heq, b, free, freePt, e, hb, hlast, hrun⟩
  · exact ⟨_, hrun, fun _ => ⟨hphase, hdrive, harmed⟩, fun heq => absurd heq hlt.ne⟩
  · exact ⟨_, hrun, fun hlt => absurd heq hlt.ne,
      fun _ => Block.tick_ends_trig free freePt (hb.trans hphase) hk hlast⟩

/-- Settles O58: an accepted MEASURE enters TRIG with PT = 0 and keeps the invariant. -/
theorem triggerLastsItsTicks : Obligations.TriggerLastsItsTicks := by
  intro i s n hs hbusy hm hk hn
  have howed : s.serviceOwed = false := State.not_owed_of_not_armed (hs.block_inv.not_armed_of_not_busy hbusy)
  obtain ⟨e, hexec⟩ := exec_measure_of_not_busy hm howed hbusy
  obtain ⟨hphase, hpt⟩ : s.block.acceptMeasure.phase = .trig ∧ s.block.acceptMeasure.pt.toNat + n = n := by
    simp [Block.acceptMeasure]
  obtain ⟨t, hrun, hlow, harms⟩ := runEvents_ticks_of_trig (exec_keeps_inv hs hexec) hphase hk (hpt.trans_le hn)
  exact ⟨_, t, hexec, hrun, fun hlt => hlow (hpt.trans_lt hlt), fun heq => harms (hpt.trans heq)⟩

/-- Settles O59: no tick of the window latches a capture, so no service is owed until the one that ends it. -/
theorem windowLastsItsTicks : Obligations.WindowLastsItsTicks := by
  intro s n hs hphase hpend hn
  obtain ⟨-, -, -, -, hk⟩ := params_bounds_of_ok hs.params_ok
  have howed : s.serviceOwed = false := State.not_owed_of_not_pend hpend
  rcases runEvents_ticks_cases howed (.inr ⟨hphase, rfl⟩) hk (hs.block_inv.pt_window hphase) hn with
    ⟨hlt, e, hrun⟩ | ⟨heq, b, free, freePt, e, hb, hlast, hrun⟩
  · exact ⟨_, hrun, fun _ => ⟨hphase, hs.block_inv.armed_iff.2 hphase⟩, fun heq => absurd heq hlt.ne⟩
  · exact ⟨_, hrun, fun hlt => absurd heq hlt.ne,
      fun _ => Block.tick_ends_window free freePt (hb.trans hphase) hk hlast⟩

end Sys2Proof.Machine
end

section
/-! The decoder and checksum validator (42_decoder_checksum): the threshold and the fields (R162 to R165), the byte sum
(R167), what a decode depends on (R171), how the window ends (R168 to R170), and what its failures show (R175). -/

namespace Sys2Proof.Machine

/-! ## The threshold and the fields (R162 to R165) -/

/-- Settles O15: an unsigned comparison with THRESH, and no THRESH is below a sample of 0. -/
theorem thresholdIsStrict : Obligations.ThresholdIsStrict := by
  refine ⟨fun p v => decide_eq_true_iff, fun p => decide_eq_false (Nat.not_lt_zero _), fun p hp => ?_⟩
  simp [sampleBit, hp]

/-- `field_getLsbD` inside the field (R163). -/
theorem field_getLsbD_of_lt {k w : Nat} (p : Params) (slot : Nat → Sample) (n off : Nat) (hk : k < w) :
    (field p slot n off w).getLsbD k = sampleBit p (slot (n - 1 - off - k)) := by
  rw [field_getLsbD, decide_eq_true hk, Bool.true_and]

/-- Settles O14: the three fields start at pops 1, 9 and 25. -/
theorem fieldsPopFromTheEnd : Obligations.FieldsPopFromTheEnd := by
  intro p slot n
  refine ⟨fun off w k => field_getLsbD_of_lt p slot n off, fun k => field_getLsbD_of_lt p slot n 0,
    fun k hk => ?_, fun k hk => ?_⟩
  · rw [frameTemp, field_getLsbD_of_lt p slot n 8 hk, Nat.sub_sub n 1 8]
  · rw [frameHum, field_getLsbD_of_lt p slot n 24 hk, Nat.sub_sub n 1 24]

/-! ## The byte sum (R167) -/

/-- The two bytes of one field, added modulo 256. -/
def byteSum (v : Sample) : BitVec 8 := v.extractLsb' 0 8 + v.extractLsb' 8 8

theorem sum8_eq_byteSum (h t : Sample) : sum8 h t = byteSum h + byteSum t := by
  rw [sum8, byteSum, byteSum, BitVec.add_assoc _ (t.extractLsb' 0 8)]

theorem byteSum_toNat (v : Sample) : (byteSum v).toNat = (v.toNat % 256 + v.toNat / 256) % 256 := by
  simp [byteSum, Nat.shiftRight_eq_div_pow]

theorem sum8_toNat (h t : Sample) :
    (sum8 h t).toNat = (h.toNat % 256 + h.toNat / 256 + t.toNat % 256 + t.toNat / 256) % 256 := by
  rw [sum8_eq_byteSum, BitVec.toNat_add, byteSum_toNat, byteSum_toNat]
  omega

/-- Settles O16. -/
theorem sumOfTheFourBytes : Obligations.SumOfTheFourBytes :=
  ⟨sum8_toNat, by decide⟩

theorem xor_ne_self {w : Nat} {m : BitVec w} (x : BitVec w) (hm : m ≠ 0#w) : x ^^^ m ≠ x :=
  fun h => hm ((BitVec.xor_right_inj x).1 (h.trans BitVec.xor_zero.symm))

/-- A single bit of a field lies in exactly one of its two bytes. -/
theorem singleBit_in_one_byte : ∀ j < 16,
    (BitVec.extractLsb' 0 8 (1#16 <<< j) ≠ 0#8 ∧ BitVec.extractLsb' 8 8 (1#16 <<< j) = 0#8) ∨
    (BitVec.extractLsb' 0 8 (1#16 <<< j) = 0#8 ∧ BitVec.extractLsb' 8 8 (1#16 <<< j) ≠ 0#8) := by
  decide

/-- A flip of one bit changes one of the two bytes, and the other cancels. -/
theorem byteSum_flip_ne (v : Sample) {j : Nat} (hj : j < 16) : byteSum (v ^^^ (1#16 <<< j)) ≠ byteSum v := by
  simp only [byteSum, BitVec.extractLsb'_xor]
  rcases singleBit_in_one_byte j hj with ⟨hlow, hhigh⟩ | ⟨hlow, hhigh⟩
  · rw [hhigh, BitVec.xor_zero, Ne, BitVec.add_left_inj]
    exact xor_ne_self _ hlow
  · rw [hlow, BitVec.xor_zero, Ne, BitVec.add_right_inj]
    exact xor_ne_self _ hhigh

/-- Settles O17: the byte sum of the field without the flip cancels. -/
theorem singleBitFlipBreaksTheChecksum : Obligations.SingleBitFlipBreaksTheChecksum := by
  intro h t j hj
  simp only [sum8_eq_byteSum, Ne, BitVec.add_left_inj, BitVec.add_right_inj]
  exact ⟨byteSum_flip_ne h hj, byteSum_flip_ne t hj⟩

/-! ## What a decode depends on (R171) -/

theorem field_congr {p : Params} {slot slot' : Nat → Sample} {n off w : Nat}
    (h : ∀ k, k < w → slot (n - 1 - off - k) = slot' (n - 1 - off - k)) :
    field p slot n off w = field p slot' n off w := by
  refine BitVec.eq_of_getLsbD_eq fun k hk => ?_
  rw [field_getLsbD_of_lt p slot n off hk, field_getLsbD_of_lt p slot' n off hk, h k hk]

/-- The three fields pop the last forty slots and no other. -/
theorem frame_congr {slot slot' : Nat → Sample} {n : Nat} (p : Params) (hn : 40 ≤ n)
    (h : ∀ j, n - 40 ≤ j → j < n → slot j = slot' j) :
    frameChecksum p slot n = frameChecksum p slot' n ∧ frameTemp p slot n = frameTemp p slot' n ∧
      frameHum p slot n = frameHum p slot' n := by
  refine ⟨field_congr fun k hk => ?_, field_congr fun k hk => ?_, field_congr fun k hk => ?_⟩
  all_goals
    simp only [ckBits, tBits, hBits] at hk
    exact h _ (by omega) (by omega)

theorem Block.decodeFrame_of_short {b : Block} (p : Params) (free : Nat → Sample) (h : b.idx.toNat < 40) :
    b.decodeFrame p free = b.truncatedResult :=
  if_neg (by simpa [admits, nreq] using h)

theorem Block.decodeFrame_of_full {b : Block} (p : Params) (free : Nat → Sample) (h : 40 ≤ b.idx.toNat) :
    b.decodeFrame p free =
      if sum8 (frameHum p (b.slotValue free) b.idx.toNat) (frameTemp p (b.slotValue free) b.idx.toNat) =
          frameChecksum p (b.slotValue free) b.idx.toNat then
        { b with idx := b.idx - 40 }.validResult (frameHum p (b.slotValue free) b.idx.toNat)
          (frameTemp p (b.slotValue free) b.idx.toNat)
      else { b with idx := b.idx - 40 }.mismatchResult :=
  if_pos (decide_eq_true h)

theorem Block.slotValue_of_read {b : Block} {i : Nat} {v : Sample} (free : Nat → Sample)
    (h : b.buf.read i = some v) : b.slotValue free i = v := by
  rw [Block.slotValue, h, Option.getD_some]

theorem sampleBit_of_read {p : Params} {free : Nat → Sample} {b : Block} {i : Nat} {v : Sample}
    (h : b.buf.read i = some v) : sampleBit p (b.slotValue free i) = decide (p.thresh.toNat < v.toNat) := by
  rw [Block.slotValue_of_read free h, sampleBit]

/-- In the invariant the free values do not show in a slot below IDX (R52). -/
theorem Block.Inv.slotValue_free {p : Params} {b : Block} (hb : b.Inv p) (free free' : Nat → Sample) {j : Nat}
    (hj : j < b.idx.toNat) : b.slotValue free j = b.slotValue free' j := by
  obtain ⟨v, hv⟩ := Option.isSome_iff_exists.1 (hb.written j hj)
  rw [Block.slotValue_of_read free hv, Block.slotValue_of_read free' hv]

/-- Settles O18: a truncated decode reads no slot, and an admitted one reads slots below IDX. -/
theorem decodeReadsOnlyTheLastForty : Obligations.DecodeReadsOnlyTheLastForty := by
  refine ⟨fun p slot slot' n => frame_congr p, fun p b free free' hb => ?_⟩
  rcases Nat.lt_or_ge b.idx.toNat 40 with hshort | hfull
  · rw [Block.decodeFrame_of_short p free hshort, Block.decodeFrame_of_short p free' hshort]
  · obtain ⟨hck, ht, hh⟩ := frame_congr p hfull fun j _ => hb.slotValue_free free free'
    rw [Block.decodeFrame_of_full p free hfull, Block.decodeFrame_of_full p free' hfull, hck, ht, hh]

/-! ## How the window ends (R168 to R170) -/

/-- A decode reads and writes neither CNT nor ARMED nor PT (R160). -/
theorem Block.decodeFrame_set_clock (p : Params) (free : Nat → Sample) (b : Block) (cnt : Sample) (armed : Bool)
    (pt : BitVec 32) :
    { b with cnt := cnt, armed := armed, pt := pt }.decodeFrame p free =
      { b.decodeFrame p free with cnt := cnt, armed := armed, pt := pt } := by
  rcases b.decodeFrame_cases p free with ⟨hshort, h⟩ | ⟨hfull, h, hsum⟩ | ⟨hfull, h, hsum⟩ <;> rw [h]
  · exact Block.decodeFrame_of_short p free hshort
  · exact (Block.decodeFrame_of_full (b := { b with cnt, armed, pt }) p free hfull).trans (if_pos hsum)
  · exact (Block.decodeFrame_of_full (b := { b with cnt, armed, pt }) p free hfull).trans (if_neg hsum)

/-- The tick that reaches WIN_TICKS decodes, disarms and enters DONE (R138). -/
theorem exec_tick_of_windowEnd {s : State} (howed : s.serviceOwed = false) (hphase : s.block.phase = .window)
    (hlast : s.block.pt.toNat + 1 = s.params.winTicks) (hfits : s.params.winTicks < 2 ^ 32) :
    ∃ e, exec .tick s = .next { s with
      block := { s.block.decodeFrame s.params s.freeSlots with
        cnt := s.block.cnt + 1, armed := false, phase := .done, pt := 0 },
      epoch := e } := by
  obtain ⟨e, htick⟩ := exec_tick_of_not_owed howed
  rw [Block.tick_of_window _ _ _ hphase, timerSucc_toNat (hlast ▸ hfits), if_pos hlast,
    Block.decodeFrame_set_clock] at htick
  exact ⟨e, htick⟩

/-- Settles O10. -/
theorem windowEndsTruncated : Obligations.WindowEndsTruncated := by
  intro s howed hphase hlast hfits hshort
  obtain ⟨e, htick⟩ := exec_tick_of_windowEnd howed hphase hlast hfits
  rw [Block.decodeFrame_of_short _ _ hshort] at htick
  exact ⟨e, htick⟩

/-- Settles O11: the fields are those of the decode, whose bits a written slot fixes (`fieldsPopFromTheEnd`). -/
theorem windowEndsDecoded : Obligations.WindowEndsDecoded := by
  intro s howed hphase hlast hfits hfull
  obtain ⟨e, htick⟩ := exec_tick_of_windowEnd howed hphase hlast hfits
  rw [Block.decodeFrame_of_full _ _ hfull] at htick
  obtain ⟨-, hck, ht, hh⟩ := fieldsPopFromTheEnd s.params (s.block.slotValue s.freeSlots) s.block.idx.toNat
  refine ⟨frameHum s.params (s.block.slotValue s.freeSlots) s.block.idx.toNat,
    frameTemp s.params (s.block.slotValue s.freeSlots) s.block.idx.toNat,
    frameChecksum s.params (s.block.slotValue s.freeSlots) s.block.idx.toNat,
    fun k v hk hv => ?_, fun k v hk hv => ?_, fun k v hk hv => ?_, fun hsum => ⟨e, ?_⟩, fun hsum => ⟨e, ?_⟩⟩
  · exact (hck k hk).trans (sampleBit_of_read hv)
  · exact (ht k hk).trans (sampleBit_of_read hv)
  · exact (hh k hk).trans (sampleBit_of_read hv)
  · rw [← sum8_toNat, BitVec.toNat_inj] at hsum
    rwa [if_pos hsum] at htick
  · rw [← sum8_toNat, Ne, BitVec.toNat_inj] at hsum
    rwa [if_neg hsum] at htick

/-- Settles O12: every bit of the three fields of `windowEndsDecoded` is a bit of the frame, so the fields are the frame
and its checksum. -/
theorem correctFrameIsReported : Obligations.CorrectFrameIsReported := by
  intro s h t howed hphase hlast hfits hfull hckBits htBits hhBits
  obtain ⟨h', t', ck, hck, ht, hh, hmatch, -⟩ := windowEndsDecoded s howed hphase hlast hfits hfull
  obtain rfl : h' = h := BitVec.eq_of_getLsbD_eq fun k hk => by
    obtain ⟨v, hread, hbit⟩ := hhBits k hk
    exact (hh k v hk hread).trans hbit
  obtain rfl : t' = t := BitVec.eq_of_getLsbD_eq fun k hk => by
    obtain ⟨v, hread, hbit⟩ := htBits k hk
    exact (ht k v hk hread).trans hbit
  have hsum : sum8 h' t' = ck := BitVec.eq_of_getLsbD_eq fun k hk => by
    obtain ⟨v, hread, hbit⟩ := hckBits k hk
    rw [hck k v hk hread, hbit, BitVec.getLsbD, sum8_toNat, Nat.testBit_mod_two_pow _ 8, decide_eq_true hk,
      Bool.true_and]
  exact hmatch (by rw [← sum8_toNat, hsum])

/-! ## What the failures show (R175, R38) -/

/-- No register shows LAST_CAUSE (R38). -/
theorem readReg_set_lastCause (p : Params) (free : Nat → Sample) (b : Block) (cause : Cause) (off : Offset) :
    readReg p free { b with lastCause := cause } off = readReg p free b off := by
  unfold readReg registerWord
  rfl

/-- Register 4, at offset 0x010, alone shows IDX (R195). -/
theorem readReg_set_idx {off : Offset} (p : Params) (free : Nat → Sample) (b : Block) (idx : BitVec 7)
    (hoff : off ≠ 0x010#9) (hlow : offLow off = 0) :
    readReg p free { b with idx := idx } off = readReg p free b off := by
  unfold readReg
  split
  case isTrue => rfl
  case isFalse hbank =>
    have hne : (offIndex off).toNat ≠ 4 := fun hidx => hoff <| BitVec.eq_of_toNat_eq <| by
      rw [offset_toNat_eq, hidx, hlow, Bool.eq_false_of_not_eq_true hbank]
      rfl
    unfold registerWord
    split
    case h_4 hidx => exact absurd hidx hne
    all_goals rfl

/-- Settles O19: the two failures differ in LAST_CAUSE and IDX only. -/
theorem failuresLookAlike : Obligations.FailuresLookAlike := by
  refine fun p free b off => ⟨fun hoff hlow => ?_, fun cause => readReg_set_lastCause p free b cause off⟩
  have htrunc : b.truncatedResult = { b.mismatchResult with lastCause := .trunc } := rfl
  have hcksum : { b with idx := b.idx - 40 }.mismatchResult = { b.mismatchResult with idx := b.idx - 40 } := rfl
  rw [htrunc, hcksum]
  exact (readReg_set_lastCause p free b.mismatchResult .trunc off).trans
    (readReg_set_idx p free b.mismatchResult (b.idx - 40) hoff hlow).symm

end Sys2Proof.Machine
end

section
/-! The host's accesses to the window (43_bus_access): the registers as rows and as BUS_READ events (R191, R193 to R197,
R199), the fields of CFG (R198) and of STATUS (R192), BUF (R200), reserved offsets (R201), and the writes that are ignored
(R204). -/

namespace Sys2Proof.Machine

/-! ## Accesses while no service is owed (R190, R202) -/

theorem hostRead_of_not_owed {s : State} (v : Word) (h : s.serviceOwed = false) :
    hostRead s v = .next { s with resp := .data v } :=
  unlessOwed_of_not_owed _ h

/-- A write that leaves the block as it was changes nothing but the response and the epoch. -/
theorem hostWrite_block_of_not_owed {s : State} (h : s.serviceOwed = false) :
    ∃ e, hostWrite s s.block = .next { s with resp := .written, epoch := e } :=
  unlessOwed_finishWrite s.block h

/-! ## The plain registers (R191, R193 to R197, R199) -/

theorem isAligned_of_mem_registerRows : ∀ row ∈ registerRows, row.1.isAligned = true := by
  decide

/-- A register's row and the BUS_READ of its offset return the same ReadReg. -/
theorem exec_registerRow_of_not_owed {s : State} (h : s.serviceOwed = false) : ∀ row ∈ registerRows,
    exec row.2 s = .next { s with resp := .data (readReg s.params s.freeSlots s.block row.1) } ∧
    exec (.busRead row.1 4) s = .next { s with resp := .data (readReg s.params s.freeSlots s.block row.1) } :=
  fun row hrow =>
    ⟨(exec_of_mem_registerRows s row hrow).trans (hostRead_of_not_owed _ h),
      (exec_busRead_of_aligned s (isAligned_of_mem_registerRows row hrow)).trans (hostRead_of_not_owed _ h)⟩

/-- Settles O32: the plain registers are the rows of `registerRows` other than STATUS and CFG. -/
theorem readsReturnTheirRegister : Obligations.ReadsReturnTheirRegister := by
  intro s howed
  have hrows := exec_registerRow_of_not_owed howed
  simp only [registerRows, List.forall_mem_cons] at hrows
  obtain ⟨⟨hctrl, hctrlBus⟩, -, ⟨hhum, hhumBus⟩, ⟨htemp, htempBus⟩, ⟨hidx, hidxBus⟩, ⟨hprev, hprevBus⟩,
    ⟨hcapt, hcaptBus⟩, -, ⟨hcnt, hcntBus⟩, -⟩ := hrows
  exact ⟨hctrl, hhum, htemp, hidx, hprev, hcapt, hcnt, hctrlBus, hhumBus, htempBus, hidxBus, hprevBus, hcaptBus,
    hcntBus⟩

/-! ## CFG (R48, R198) -/

/-- CFG's three fields as digits; CAP wraps at its eight bits (log 18). -/
theorem cfgWord_toNat (p : Params) : (cfgWord p).toNat = p.thresh.toNat * 65536 + p.cap % 256 := by
  rw [cfgWord, BitVec.toNat_append, BitVec.toNat_append, ← Nat.shiftLeft_add_eq_or_of_lt (BitVec.isLt _),
    ← Nat.shiftLeft_add_eq_or_of_lt (BitVec.isLt _), BitVec.toNat_ofNat, BitVec.toNat_ofNat]
  omega

/-- Settles O33: a CAP below 256 does not wrap. -/
theorem cfgShowsTheParameters : Obligations.CfgShowsTheParameters := by
  refine ⟨fun s howed hcap => ⟨cfgWord s.params, hostRead_of_not_owed _ howed, ?_⟩, rfl⟩
  rw [cfgWord_toNat, Nat.mod_eq_of_lt hcap]

/-! ## STATUS (R42, R192) -/

/-- The flags of STATUS from bit 2 up: BUSY, DONE, VALID, OVF, ARMED, POL, PEND, DRIVE, WIRE. -/
def Block.statusFlags (b : Block) : List Bool :=
  [b.busy, b.isDone, b.valid, b.ovf, b.armed, b.pol == .rise, b.pend, b.drive, b.wire]

theorem Polarity.code_eq_bit (pol : Polarity) : pol.code = bit (pol == .rise) := by
  cases pol <;> rfl

theorem ofBoolListLE_singleton (c : Bool) : BitVec.ofBoolListLE [c] = bit c := by
  cases c <;> rfl

/-- Above the two bits of PHASE, STATUS is the list of its flags. -/
theorem Block.statusFields_getLsbD (b : Block) (k : Nat) :
    b.statusFields.getLsbD (k + 2) = b.statusFlags.getD k false := by
  have hflags : b.statusFields.getLsbD (k + 2) = (BitVec.ofBoolListLE b.statusFlags).getLsbD k := by
    rw [Block.statusFields, BitVec.getLsbD_append, if_neg (by omega), Nat.add_sub_cancel, Polarity.code_eq_bit,
      ← ofBoolListLE_singleton b.wire]
    rfl
  rw [hflags, BitVec.getLsbD_ofBoolListLE]

theorem zext32_getLsbD {n : Nat} (v : BitVec n) (hn : n ≤ 32) (k : Nat) : (zext32 v).getLsbD k = v.getLsbD k := by
  have hlt : v.getLsbD k = true → k < 32 := fun hk => (BitVec.lt_of_getLsbD hk).trans_le hn
  simpa [zext32, BitVec.getLsbD_setWidth] using hlt

theorem Block.status_getLsbD (b : Block) (k : Nat) : b.status.getLsbD (k + 2) = b.statusFlags.getD k false := by
  rw [Block.status, zext32_getLsbD _ (by decide), Block.statusFields_getLsbD]

theorem Block.status_phase (b : Block) : b.status.extractLsb' 0 2 = b.phase.code := by
  rw [Block.status, zext32, BitVec.extractLsb'_setWidth_of_le (by decide)]
  exact BitVec.extractLsb'_append_eq_right

/-- No flag lies above bit 10. -/
theorem Block.status_top (b : Block) : b.status.extractLsb' 11 21 = 0#21 := by
  refine BitVec.eq_of_getLsbD_eq fun k hk => ?_
  have htop : b.status.getLsbD (11 + k) = false := by
    rw [show 11 + k = (k + 9) + 2 by omega, Block.status_getLsbD]
    rfl
  rw [BitVec.getLsbD_extractLsb', htop, Bool.and_false, BitVec.getLsbD_zero]

/-- Settles O34: the flags are those of `Block.statusFlags`, from bit 2 up. -/
theorem statusShowsTheFlags : Obligations.StatusShowsTheFlags := by
  refine ⟨fun s howed => ?_, rfl, rfl⟩
  have hflag := s.block.status_getLsbD
  have hbusy : s.block.status.getLsbD 2 = s.block.busy := hflag 0
  have hdone : s.block.status.getLsbD 3 = (s.block.phase == .done) := hflag 1
  have hpol : s.block.status.getLsbD 7 = (s.block.pol == .rise) := hflag 5
  refine ⟨s.block.status, hostRead_of_not_owed _ howed, s.block.status_phase, ?busy, ?done, hflag 2, hflag 3, hflag 4,
    ?pol, hflag 6, hflag 7, hflag 8, s.block.status_top⟩
  case busy => rw [hbusy, Block.busy_eq_true_iff]
  case done => rw [hdone, beq_iff_eq]
  case pol => rw [hpol, beq_iff_eq]

/-! ## BUF and the reserved offsets (R200, R201) -/

theorem exec_rdBuf (i : BitVec 6) (s : State) :
    exec (.rdBuf i) s = hostRead s (bufWord s.params s.freeSlots s.block i) :=
  rfl

theorem bufWord_of_lt {p : Params} {i : BitVec 6} (free : Nat → Sample) (b : Block) (h : i.toNat < p.cap) :
    bufWord p free b i = zext32 (b.slotValue free i.toNat) :=
  if_pos h

theorem bufWord_of_ge {p : Params} {i : BitVec 6} (free : Nat → Sample) (b : Block) (h : p.cap ≤ i.toNat) :
    bufWord p free b i = 0#32 :=
  if_neg h.not_gt

/-- Settles O35: the value is that of the slot, with the free value where it was never written. -/
theorem bufReadsReturnTheSlot : Obligations.BufReadsReturnTheSlot := by
  intro s i howed hcap
  refine ⟨s.block.slotValue s.freeSlots i.toNat, ?_, fun x => Block.slotValue_of_read s.freeSlots⟩
  rw [exec_rdBuf, bufWord_of_lt _ _ hcap, hostRead_of_not_owed _ howed]
  rfl

/-- Settles O36: `bufWord_of_ge` for the slots, `readReg_of_reserved` for the events. -/
theorem reservedOffsetsReadZero : Obligations.ReservedOffsetsReadZero := by
  refine fun s howed => ⟨fun off => hostRead_of_not_owed 0 howed, fun i hcap => ?_, fun off hreserved => ?_⟩
  · rw [exec_rdBuf, bufWord_of_ge _ _ hcap]
    exact hostRead_of_not_owed 0 howed
  · obtain ⟨haligned, -⟩ := isReserved_eq_true_iff.1 hreserved
    rw [exec_busRead_of_aligned s haligned, readReg_of_reserved _ _ hreserved]
    exact hostRead_of_not_owed 0 howed

/-! ## Writes that are ignored (R204) -/

theorem exec_busWrite_of_ne_ctrl {off : Offset} (data : Word) (s : State) (haligned : off.isAligned = true)
    (hoff : off ≠ 0x000#9) : exec (.busWrite off 4 data) s = hostWrite s s.block :=
  (exec_busWrite_of_aligned data s haligned).trans (if_neg hoff)

/-- Settles O37: the row and the event are one write that leaves the block as it was. -/
theorem otherWritesAreIgnored : Obligations.OtherWritesAreIgnored := by
  intro s off data howed
  refine ⟨hostWrite_block_of_not_owed howed, fun haligned hoff => ?_⟩
  rw [exec_busWrite_of_ne_ctrl data s (beq_iff_eq.2 haligned) hoff]
  exact hostWrite_block_of_not_owed howed

end Sys2Proof.Machine
end

section
/-! The exceptions of the block (60_exceptions): an illegal access changes no state (R214), and the record that each
error condition of R210 leaves. -/

namespace Sys2Proof.Machine

/-! ## Illegal accesses (R214) -/

/-- The two conditions of R83 on an access: SIZE = 4, and OFF a multiple of 4. -/
theorem accessIllegal_eq_true_iff {off : Offset} {size : Nat} :
    accessIllegal off size = true ↔ size ≠ 4 ∨ off.toNat % 4 ≠ 0 := by
  rw [← Bool.not_eq_false, accessIllegal_eq_false_iff, Offset.isAligned, beq_iff_eq, not_and_or]

/-- With no service owed, a bus error changes nothing but the response and the epoch. -/
theorem busFault_of_not_owed {s : State} (off : Offset) (h : s.serviceOwed = false) :
    ∃ e, busFault s off = .next { s with resp := .busError off, epoch := e } :=
  ⟨s.epoch + 1, unlessOwed_of_not_owed _ h⟩

/-- Settles O38: the row and both events of an illegal access are one bus error. -/
theorem busErrorChangesNoState : Obligations.BusErrorChangesNoState := by
  intro s off size howed hsize
  have hillegal : accessIllegal off size = true := accessIllegal_eq_true_iff.2 hsize
  refine ⟨fun access => ?_, ?_, fun data => ?_⟩
  · rw [exec_busErr]
    exact busFault_of_not_owed off howed
  · rw [exec_busRead_of_illegal s hillegal]
    exact busFault_of_not_owed off howed
  · rw [exec_busWrite_of_illegal data s hillegal]
    exact busFault_of_not_owed off howed

/-! ## What each condition records (R210) -/

/-- The record that R210 lists for a condition of a step from `s` to `t`. -/
def Condition.Recorded (c : Condition) (s t : State) : Prop :=
  match c with
  | .ok => t.block.lastCause = .ok ∧ t.block.valid = true
  | .trunc => t.block.lastCause = .trunc ∧ t.block.valid = false
  | .cksum => t.block.lastCause = .cksum ∧ t.block.valid = false
  | .overflow => t.block.ovf = true ∧ t.block.buf = s.block.buf
  | .busErr => t.block = s.block ∧ ∃ off, t.resp = .busError off
  | .lostCap =>
    s.block.pend = true ∧ t.block.pend = true ∧ t.block.capt = t.block.cnt ∧ t.block.ovf = s.block.ovf ∧
      t.block.idx = s.block.idx ∧ t.block.buf = s.block.buf ∧ t.block.valid = s.block.valid ∧
      t.block.hum = s.block.hum ∧ t.block.temp = s.block.temp ∧ t.block.lastCause = s.block.lastCause ∧
      t.resp = s.resp
  | .cmdIgnored => t.block = s.block

/-! ### Lost captures (R215) -/

theorem lostCondition_eq_some_iff {b b' : Block} {c : Condition} :
    lostCondition b b' = some c ↔ lostCapture b b' = true ∧ c = .lostCap := by
  rw [lostCondition, Option.ite_none_right_eq_some, Option.some_inj, eq_comm (a := Condition.lostCap)]

/-- The edge detector over a pending capture, where the block with the changed driver, `u`, differs from the one before
the step in the drivers of the line, the counter and the sequencer at most: it captures, and a capture writes CAPT and
PEND only. -/
theorem recorded_of_lostCapture {s : State} {u : Block}
    (hu : u = { s.block with cnt := u.cnt, armed := u.armed, phase := u.phase, pt := u.pt, drive := u.drive,
                             sensorOut := u.sensorOut })
    (h : lostCapture s.block (u.wireUpdate s.block.wire) = true) :
    Condition.lostCap.Recorded s (s.complete (u.wireUpdate s.block.wire)) := by
  simp only [lostCapture, Block.wireUpdate_wire, Bool.and_eq_true] at h
  obtain ⟨⟨hpend, hedge⟩, hselects⟩ := h
  have hpol : u.pol = s.block.pol := by rw [hu]
  have hcapture : u.wireUpdate s.block.wire = u.capture := if_pos (by rw [hedge, hpol, hselects]; rfl)
  rw [hcapture, hu]
  exact ⟨hpend, rfl, rfl, rfl, rfl, rfl, rfl, rfl, rfl, rfl, rfl⟩

theorem recorded_of_sensorCondition {s : State} {c : Condition} {v : Bool}
    (h : lostCondition s.block (s.block.setSensor v) = some c) : c.Recorded s (s.complete (s.block.setSensor v)) := by
  obtain ⟨hlost, rfl⟩ := lostCondition_eq_some_iff.1 h
  exact recorded_of_lostCapture (u := { s.block with sensorOut := v }) rfl hlost

/-! ### Ticks -/

section

variable {p : Params} {free : Nat → Sample} {freePt : BitVec 32} {b : Block}

/-- The end of the trigger is the one tick that changes the line (R136). -/
theorem Block.tick_of_wire_ne (h : (b.tick p free freePt).wire ≠ b.wire) :
    b.tick p free freePt = { b with cnt := b.cnt + 1, armed := true, phase := .window, pt := 0 }.setDrive false := by
  rcases b.tick_cases p free freePt with ⟨-, ht⟩ | ⟨-, -, ht⟩ | ⟨-, -, ht⟩ | ⟨-, -, ht⟩ | ⟨-, -, ht⟩
  case inr.inr.inl => exact ht
  all_goals exact absurd (by simp [ht, Block.wire]) h

/-- The tick that ends the window decodes (R138). -/
theorem Block.tick_of_windowEnd (hwin : b.phase = .window) (hdone : (b.tick p free freePt).phase = .done) :
    b.tick p free freePt =
      { { b with cnt := b.cnt + 1, armed := false, pt := timerSucc freePt b.pt }.decodeFrame p free with
        phase := .done, pt := 0 } := by
  rw [Block.tick_of_window p free freePt hwin] at hdone ⊢
  split at hdone
  case isTrue hlast => exact if_pos hlast
  case isFalse => simp [hwin] at hdone

/-- A decode ends with VALID = 1 exactly where it matched (R168 to R170). -/
theorem Block.decodeFrame_valid (p : Params) (free : Nat → Sample) (b : Block) :
    (b.decodeFrame p free).valid = ((b.decodeFrame p free).lastCause == .ok) := by
  rcases b.decodeFrame_cases p free with ⟨-, h⟩ | ⟨-, h, -⟩ | ⟨-, h, -⟩ <;> rw [h] <;> rfl

end

/-- A block that holds a result records its condition, where VALID agrees with LAST_CAUSE. -/
theorem recorded_of_causeCondition {s t : State} {c : Condition} (hvalid : t.block.valid = (t.block.lastCause == .ok))
    (h : t.block.lastCause.condition = some c) : c.Recorded s t := by
  cases hcause : t.block.lastCause
  all_goals
    rw [hcause] at h hvalid
    cases h
  all_goals exact ⟨hcause, hvalid⟩

/-- A tick ends the window with a result, or else loses a capture at the end of the trigger. -/
theorem recorded_of_tickCondition {s : State} {c : Condition}
    (h : tickCondition s.block (s.block.tick s.params s.freeSlots s.freeTimer) = some c) :
    c.Recorded s (s.complete (s.block.tick s.params s.freeSlots s.freeTimer)) := by
  unfold tickCondition at h
  split at h
  case isTrue hend =>
    refine recorded_of_causeCondition ?_ h
    rw [State.complete_block, Block.tick_of_windowEnd hend.1 hend.2]
    exact Block.decodeFrame_valid _ _ _
  case isFalse =>
    obtain ⟨hlost, rfl⟩ := lostCondition_eq_some_iff.1 h
    have hedge : (s.block.tick s.params s.freeSlots s.freeTimer).wire ≠ s.block.wire := by
      simp only [lostCapture, Bool.and_eq_true, bne_iff_ne] at hlost
      exact hlost.1.2
    rw [Block.tick_of_wire_ne hedge] at hlost ⊢
    exact recorded_of_lostCapture
      (u := { s.block with cnt := s.block.cnt + 1, armed := true, phase := .window, pt := 0, drive := false }) rfl hlost

/-! ### Commands and accesses (R214, R216) -/

/-- A command meets no condition but CMD_IGNORED, and then leaves the block as it was. -/
theorem recorded_of_commandCondition {cmd : BitVec 4} {s : State} {c : Condition}
    (h : commandCondition cmd s.block = some c) : c.Recorded s (s.finishWrite (s.block.command cmd)) := by
  have hignored : s.block.command cmd = s.block ∧ c = .cmdIgnored := by
    unfold commandCondition at h
    split at h
    case isTrue hreserved =>
      have hne : cmd ≠ 0x1#4 := by
        rintro rfl
        exact absurd hreserved (by decide)
      exact ⟨Block.command_of_ne_one hne _, (Option.some.inj h).symm⟩
    case isFalse =>
      obtain ⟨⟨rfl, hbusy⟩, hc⟩ := Option.ite_none_right_eq_some.1 h
      exact ⟨Block.measure_of_busy hbusy, (Option.some.inj hc).symm⟩
  obtain ⟨hcommand, rfl⟩ := hignored
  exact hcommand

theorem recorded_of_busFault {s t : State} {off : Offset} (h : busFault s off = .next t) :
    Condition.busErr.Recorded s t := by
  obtain ⟨-, rfl⟩ := unlessOwed_eq_next.1 h
  exact ⟨rfl, off, rfl⟩

/-! ### Every instruction -/

/-- A step that completes leaves the record of the condition it meets. -/
theorem exec_records {i : Instr} {s t : State} {c : Condition} (h : exec i s = .next t)
    (hc : conditionOf i s = some c) : c.Recorded s t := by
  cases i with
  | tick =>
    obtain ⟨-, rfl⟩ := unlessOwed_eq_next.1 h
    exact recorded_of_tickCondition hc
  | sensorLow | sensorRelease =>
    obtain ⟨-, rfl⟩ := unlessOwed_eq_next.1 h
    exact recorded_of_sensorCondition hc
  | service =>
    obtain ⟨⟨hwire, hfull⟩, hc⟩ := Option.ite_none_right_eq_some.1 hc
    have hen : s.block.serviceEnabled = true := by
      by_contra hen
      cases (exec_service_of_not_enabled hen).symm.trans h
    cases hc
    cases (exec_service_of_enabled hen).symm.trans h
    rw [Block.service_of_full hwire hfull]
    exact ⟨rfl, rfl⟩
  | measure | wrCtrl =>
    obtain ⟨-, rfl⟩ := unlessOwed_eq_next.1 h
    exact recorded_of_commandCondition hc
  | cmdReserved cmd rsvd =>
    obtain ⟨-, rfl⟩ := unlessOwed_eq_next.1 h
    cases hc
    rfl
  | busErr off size access =>
    cases hc
    exact recorded_of_busFault h
  | busRead off size =>
    obtain ⟨hillegal, hc⟩ := Option.ite_none_right_eq_some.1 hc
    cases hc
    exact recorded_of_busFault ((exec_busRead_of_illegal s hillegal).symm.trans h)
  | busWrite off size data =>
    simp only [conditionOf] at hc
    split at hc
    case isTrue hillegal =>
      cases hc
      exact recorded_of_busFault ((exec_busWrite_of_illegal data s hillegal).symm.trans h)
    case isFalse hlegal =>
      obtain ⟨rfl, hc⟩ := Option.ite_none_right_eq_some.1 hc
      obtain ⟨rfl, -⟩ := accessIllegal_eq_false_iff.1 (Bool.eq_false_of_not_eq_true hlegal)
      obtain ⟨-, rfl⟩ := unlessOwed_eq_next.1 ((exec_busWrite_ctrl data s).symm.trans h)
      exact recorded_of_commandCondition hc
  | _ => cases hc

/-- Settles O51: the record of each condition is one line of `Condition.Recorded`. -/
theorem conditionsAreRecordedAsListed : Obligations.ConditionsAreRecordedAsListed :=
  fun _ _ _ h => ⟨exec_records h, exec_records h, exec_records h, exec_records h, exec_records h, exec_records h,
    exec_records h⟩

end Sys2Proof.Machine
end

section
/-! Reset and hazards (70_reset_and_hazards): power-on and the reset input (R240), the results while a cycle runs
(R244), the train of short pulses (R247), the capture of the block's own falling edge (R248), and what a cycle keeps of
the cycles before it (R241). -/

namespace Sys2Proof.Machine

/-! ## Power-on and the reset input (R240) -/

theorem Block.powerOn_inv (p : Params) (sensorOut : Bool) : (Block.powerOn sensorOut).Inv p where
  armed_iff := by simp
  drive_iff := by simp
  idx_le := Nat.zero_le _
  buf_wf := Buffer.wf_nil _
  written := fun j hj => absurd hj (Nat.not_lt_zero j)
  pt_rest := fun _ => rfl
  pt_trig := by simp
  pt_window := by simp
  results_zero := fun _ => ⟨rfl, rfl⟩
  valid_iff := by simp
  cause_iff := by simp
  fresh := fun _ => ⟨rfl, rfl, rfl, rfl⟩
  ovf_full := by simp
  trunc_idx := by simp

theorem State.powerOn_inv {p : Params} (hp : p.ok = true) (sensorOut : Bool) : (State.powerOn p sensorOut).Inv :=
  ⟨hp, Block.powerOn_inv p sensorOut⟩

/-- Settles O53: the power-on block meets the invariant for any parameters; reset is power-on with the defaults. -/
theorem powerOnMeetsTheInvariant : Obligations.PowerOnMeetsTheInvariant :=
  ⟨fun _ sensorOut hp => State.powerOn_inv hp sensorOut, State.powerOn_inv (by decide) true⟩

/-- Settles O54: both resets leave the block `Block.powerOn`, which differs in the sensor's driver only. -/
theorem resetPutsEveryElementToItsValue : Obligations.ResetPutsEveryElementToItsValue :=
  fun s => ⟨s.assertReset_block, s.assertReset_params, fun _ _ => rfl⟩

/-! ## The results while a cycle runs (R244) -/

/-- LAST_CAUSE is NONE while a cycle runs, so VALID is 0, and with it HUM and TEMP. -/
theorem Block.Inv.results_of_busy {p : Params} {b : Block} (h : b.Inv p) (hbusy : b.busy = true) :
    b.hum = 0 ∧ b.temp = 0 ∧ b.valid = false := by
  have hcause : b.lastCause = .none := h.cause_iff.2 fun hdone => by simp [Block.busy, hdone] at hbusy
  have hvalid : b.valid = false := Bool.eq_false_of_not_eq_true fun hv => by simp [h.valid_iff.1 hv] at hcause
  exact ⟨(h.results_zero hvalid).1, (h.results_zero hvalid).2, hvalid⟩

/-- Settles O50: the reads return the registers, and bit 4 of STATUS is VALID. -/
theorem resultsReadZeroWhileBusy : Obligations.ResultsReadZeroWhileBusy := by
  intro s hs hphase
  obtain ⟨hhum, htemp, hvalid⟩ := hs.block_inv.results_of_busy (Block.busy_eq_true_iff.2 hphase)
  refine ⟨hhum, htemp, hvalid, fun howed => ?_⟩
  obtain ⟨-, hrdHum, hrdTemp, -⟩ := readsReturnTheirRegister s howed
  refine ⟨?_, ?_, s.block.status, hostRead_of_not_owed _ howed, (s.block.status_getLsbD 2).trans hvalid⟩
  · rw [hrdHum, hhum]
    rfl
  · rw [hrdTemp, htemp]
    rfl

/-! ## A train of short pulses (R247) -/

/-- Settles O13: samples at most THRESH are the pulses of the frame h = t = 0, whose checksum is 0. -/
theorem allShortTrainPasses : Obligations.AllShortTrainPasses := by
  intro s howed hphase hlast hfits hfull hshort
  have hbit : ∀ j, s.block.idx.toNat - 40 ≤ j → j < s.block.idx.toNat →
      ∃ v, s.block.buf.read j = some v ∧ decide (s.params.thresh.toNat < v.toNat) = false := fun j hlo hhi => by
    obtain ⟨v, hread, hv⟩ := hshort j hlo hhi
    exact ⟨v, hread, decide_eq_false hv.not_gt⟩
  refine correctFrameIsReported s 0 0 howed hphase hlast hfits hfull (fun k hk => ?_) (fun k hk => ?_) fun k hk => ?_
  · simpa using hbit (s.block.idx.toNat - 1 - k) (by omega) (by omega)
  · simpa using hbit (s.block.idx.toNat - 9 - k) (by omega) (by omega)
  · simpa using hbit (s.block.idx.toNat - 25 - k) (by omega) (by omega)

/-! ## The capture of the block's own falling edge (R248) -/

/-- With POL = FALL the release at the end of the trigger is no edge that is captured (R136). -/
theorem Block.tick_ends_trig_of_fall {p : Params} {b : Block} (free : Nat → Sample) (freePt : BitVec 32)
    (hphase : b.phase = .trig) (hk : p.trigTicks < 2 ^ 32) (hn : b.pt.toNat + 1 = p.trigTicks) (hpol : b.pol = .fall) :
    b.tick p free freePt =
      { b with cnt := b.cnt + 1, armed := true, phase := .window, pt := 0, drive := false } := by
  rw [Block.tick_of_trig p free freePt hphase, timerSucc_toNat (hn ▸ hk), if_pos hn, Block.setDrive_false_eq]
  simp [hpol]

/-- Settles O26: the trigger ends with POL = FALL, the capture of MEASURE pending and the line high, where a service
records no sample. -/
theorem triggerEdgeRecordsNoSample : Obligations.TriggerEdgeRecordsNoSample := by
  intro s hs hphase hn hk hsensor hpend
  obtain ⟨-, -, hpol, -⟩ := hs.block_inv.fresh (.inr hphase)
  have harmed : s.block.armed = false :=
    Bool.eq_false_of_not_eq_true fun harmed => by simp [hs.block_inv.armed_iff.1 harmed] at hphase
  obtain ⟨e, htick⟩ := exec_tick_of_not_owed (State.not_owed_of_not_armed harmed)
  rw [Block.tick_ends_trig_of_fall _ _ hphase hk hn hpol] at htick
  refine ⟨_, _, htick, exec_service_of_enabled (Block.serviceEnabled_iff.2 ⟨rfl, hpend⟩), ?_⟩
  rw [State.complete_block, Block.service_of_high _ (by simp [Block.wire, hsensor]), ← hpol]

/-! ## Two machines in the same cycle (R241)

One lemma per operation: it keeps `Block.Agree`. -/

/-- Agreement as an update: CAPT and BUF alone may differ, CAPT while no capture is pending and BUF at IDX and above. -/
theorem Block.agree_iff {b c : Block} :
    b.Agree c ↔ ∃ capt buf, c = { b with capt := capt, buf := buf } ∧ (b.pend = true → b.capt = capt) ∧
      ∀ j, j < b.idx.toNat → b.buf.read j = buf.read j := by
  constructor
  · intro h
    refine ⟨c.capt, c.buf, ?_, h.capt, h.buf⟩
    obtain ⟨hcnt, -, hpend, hpol, harmed, hprev, hidx, -, hovf, hphase, hpt, hdrive, hsensor, hhum, htemp, hvalid,
      hcause⟩ := h
    rw [hcnt, hpend, hpol, harmed, hprev, hidx, hovf, hphase, hpt, hdrive, hsensor, hhum, htemp, hvalid, hcause]
  · rintro ⟨capt, buf, rfl, hcapt, hbuf⟩
    exact ⟨rfl, hcapt, rfl, rfl, rfl, rfl, rfl, hbuf, rfl, rfl, rfl, rfl, rfl, rfl, rfl, rfl, rfl⟩

section BlockAgreement

variable {p : Params} {b c : Block}

theorem Block.Agree.serviceEnabled_eq (h : b.Agree c) : b.serviceEnabled = c.serviceEnabled := by
  rw [Block.serviceEnabled, Block.serviceEnabled, h.armed, h.pend]

theorem Block.Agree.busy_eq (h : b.Agree c) : b.busy = c.busy := by
  rw [Block.busy, Block.busy, h.phase]

theorem Block.Agree.wire_eq (h : b.Agree c) : b.wire = c.wire := by
  rw [Block.wire, Block.wire, h.sensorOut, h.drive]

/-! Of the counter, the sequencer and the drivers agreement asks only that they are equal. -/

theorem Block.Agree.set_sequencer (h : b.Agree c) {cnt cnt' : Sample} {armed armed' : Bool} {phase phase' : Phase}
    {pt pt' : BitVec 32} (hcnt : cnt = cnt') (harmed : armed = armed') (hphase : phase = phase') (hpt : pt = pt') :
    Block.Agree { b with cnt := cnt, armed := armed, phase := phase, pt := pt }
      { c with cnt := cnt', armed := armed', phase := phase', pt := pt' } := by
  subst hcnt harmed hphase hpt
  obtain ⟨capt, buf, rfl, hcapt, hbuf⟩ := Block.agree_iff.1 h
  exact Block.agree_iff.2 ⟨capt, buf, rfl, hcapt, hbuf⟩

theorem Block.Agree.set_drivers (h : b.Agree c) {drive drive' sensorOut sensorOut' : Bool} (hdrive : drive = drive')
    (hsensor : sensorOut = sensorOut') :
    Block.Agree { b with drive := drive, sensorOut := sensorOut }
      { c with drive := drive', sensorOut := sensorOut' } := by
  subst hdrive hsensor
  obtain ⟨capt, buf, rfl, hcapt, hbuf⟩ := Block.agree_iff.1 h
  exact Block.agree_iff.2 ⟨capt, buf, rfl, hcapt, hbuf⟩

/-- The edge detector captures CNT in both blocks or in neither. -/
theorem Block.Agree.wireUpdate (h : b.Agree c) (old : Bool) : (b.wireUpdate old).Agree (c.wireUpdate old) := by
  unfold Block.wireUpdate
  rw [← h.wire_eq, ← h.pol]
  obtain ⟨capt, buf, rfl, hcapt, hbuf⟩ := Block.agree_iff.1 h
  split
  case isTrue => exact Block.agree_iff.2 ⟨b.cnt, buf, rfl, fun _ => rfl, hbuf⟩
  case isFalse => exact h

theorem Block.Agree.setDrive (h : b.Agree c) (v : Bool) : (b.setDrive v).Agree (c.setDrive v) := by
  rw [Block.setDrive, Block.setDrive, h.wire_eq]
  exact (h.set_drivers rfl h.sensorOut).wireUpdate _

theorem Block.Agree.setSensor (h : b.Agree c) (v : Bool) : (b.setSensor v).Agree (c.setSensor v) := by
  rw [Block.setSensor, Block.setSensor, h.wire_eq]
  exact (h.set_drivers h.drive rfl).wireUpdate _

/-! ### Commands (R131) -/

/-- The cycle reset writes every element but these four, BUF, and CAPT; with PEND = 0 and IDX = 0 the last two may
differ. -/
theorem Block.cycleReset_agree (hcnt : b.cnt = c.cnt) (harmed : b.armed = c.armed) (hdrive : b.drive = c.drive)
    (hsensor : b.sensorOut = c.sensorOut) : b.cycleReset.Agree c.cycleReset where
  cnt := hcnt
  capt := nofun
  pend := rfl
  pol := rfl
  armed := harmed
  prev := rfl
  idx := rfl
  buf := fun j hj => absurd hj (Nat.not_lt_zero j)
  ovf := rfl
  phase := rfl
  pt := rfl
  drive := hdrive
  sensorOut := hsensor
  hum := rfl
  temp := rfl
  valid := rfl
  lastCause := rfl

theorem Block.acceptMeasure_agree (hcnt : b.cnt = c.cnt) (harmed : b.armed = c.armed) (hdrive : b.drive = c.drive)
    (hsensor : b.sensorOut = c.sensorOut) : b.acceptMeasure.Agree c.acceptMeasure :=
  (Block.cycleReset_agree hcnt harmed hdrive hsensor).setDrive true

theorem Block.Agree.command (h : b.Agree c) (cmd : BitVec 4) : (b.command cmd).Agree (c.command cmd) := by
  unfold Block.command Block.measure
  rw [← h.busy_eq]
  split
  case isFalse => exact h
  case isTrue =>
    split
    case isTrue => exact h
    case isFalse => exact Block.acceptMeasure_agree h.cnt h.armed h.drive h.sensorOut

/-! ### The decode (R160) -/

/-- The decode reads written slots below IDX only, which agree. -/
theorem Block.Agree.slotValue (h : b.Agree c) (hb : b.Inv p) (free free' : Nat → Sample) {j : Nat}
    (hj : j < b.idx.toNat) : b.slotValue free j = c.slotValue free' j := by
  obtain ⟨v, hv⟩ := Option.isSome_iff_exists.1 (hb.written j hj)
  rw [Block.slotValue_of_read free hv, Block.slotValue_of_read free' ((h.buf j hj).symm.trans hv)]

/-- The results come from agreeing slots, and IDX does not grow. -/
theorem Block.Agree.decodeFrame (h : b.Agree c) (hb : b.Inv p) (free free' : Nat → Sample) :
    (b.decodeFrame p free).Agree (c.decodeFrame p free') := by
  rcases Nat.lt_or_ge b.idx.toNat 40 with hshort | hfull
  · rw [Block.decodeFrame_of_short p free hshort, Block.decodeFrame_of_short p free' (h.idx ▸ hshort)]
    obtain ⟨capt, buf, rfl, hcapt, hbuf⟩ := Block.agree_iff.1 h
    exact Block.agree_iff.2 ⟨capt, buf, rfl, hcapt, hbuf⟩
  · obtain ⟨hck, ht, hh⟩ := frame_congr p hfull fun j _ => h.slotValue hb free free'
    rw [Block.decodeFrame_of_full p free hfull, Block.decodeFrame_of_full p free' (h.idx ▸ hfull), ← h.idx, ← hck,
      ← ht, ← hh]
    obtain ⟨capt, buf, rfl, hcapt, hbuf⟩ := Block.agree_iff.1 h
    have hpop : ∀ j, j < (b.idx - 40).toNat → b.buf.read j = buf.read j :=
      fun j hj => hbuf j (hj.trans_le (idx_sub_forty_le hfull))
    split
    case isTrue => exact Block.agree_iff.2 ⟨capt, buf, rfl, hcapt, hpop⟩
    case isFalse => exact Block.agree_iff.2 ⟨capt, buf, rfl, hcapt, hpop⟩

/-! ### A tick (R102) -/

/-- While a cycle runs PT + 1 fits, so it is no free value (log 11). -/
theorem Block.Inv.pt_fits (hb : b.Inv p) (hp : p.ok = true) (hk : p.trigTicks < 2 ^ 32) (hbusy : b.busy = true) :
    b.pt.toNat + 1 < 2 ^ 32 := by
  obtain ⟨-, -, -, -, hwin⟩ := params_bounds_of_ok hp
  rcases Block.busy_eq_true_iff.1 hbusy with hphase | hphase
  · have := hb.pt_trig hphase
    omega
  · have := hb.pt_window hphase
    omega

/-- Agreeing blocks tick alike: neither free value shows. -/
theorem Block.Agree.tick (h : b.Agree c) (hb : b.Inv p) (hp : p.ok = true) (hk : p.trigTicks < 2 ^ 32)
    (free free' : Nat → Sample) (freePt freePt' : BitVec 32) :
    (b.tick p free freePt).Agree (c.tick p free' freePt') := by
  have hcnt : b.cnt + 1 = c.cnt + 1 := congrArg (· + 1) h.cnt
  have htimer : b.busy = true → timerSucc freePt b.pt = timerSucc freePt' c.pt := fun hbusy => by
    have hfits := hb.pt_fits hp hk hbusy
    rw [timerSucc_eq hfits, timerSucc_eq (h.pt ▸ hfits), h.pt]
  cases hbusy : b.busy with
  | false =>
    rw [Block.tick_of_idle_or_done (Block.busy_eq_false_iff.1 hbusy),
      Block.tick_of_idle_or_done (Block.busy_eq_false_iff.1 (h.busy_eq ▸ hbusy))]
    exact h.set_sequencer hcnt h.armed h.phase h.pt
  | true =>
    rcases Block.busy_eq_true_iff.1 hbusy with hphase | hphase
    · rw [Block.tick_of_trig p free freePt hphase, Block.tick_of_trig p free' freePt' (h.phase ▸ hphase),
        htimer hbusy]
      split
      case isTrue => exact (h.set_sequencer hcnt rfl rfl rfl).setDrive false
      case isFalse => exact h.set_sequencer hcnt h.armed h.phase rfl
    · rw [Block.tick_of_window p free freePt hphase, Block.tick_of_window p free' freePt' (h.phase ▸ hphase),
        htimer hbusy, Block.decodeFrame_set_clock p free b, Block.decodeFrame_set_clock p free' c]
      split
      case isTrue => exact (h.decodeFrame hb free free').set_sequencer hcnt rfl rfl rfl
      case isFalse => exact h.set_sequencer hcnt h.armed h.phase rfl

/-! ### A service (R105) -/

/-- The same sample in slot IDX of both buffers. -/
theorem Block.Agree.read_write (h : b.Agree c) (v : Sample) {j : Nat} (hj : j < (b.idx + 1).toNat) :
    (b.buf.write b.idx.toNat v).read j = (c.buf.write b.idx.toNat v).read j := by
  by_cases hlast : j = b.idx.toNat
  · rw [hlast, Buffer.read_write_same, Buffer.read_write_same]
  · rw [Buffer.read_write_other _ _ _ _ hlast, Buffer.read_write_other _ _ _ _ hlast]
    exact h.buf j (by bv_omega)

/-- A service runs with a capture pending, where CAPT agrees too, so both blocks record the same sample. -/
theorem Block.Agree.service (h : b.Agree c) (hpend : b.pend = true) : (b.service p).Agree (c.service p) := by
  cases hwire : b.wire with
  | true =>
    rw [Block.service_of_high p hwire, Block.service_of_high p (h.wire_eq ▸ hwire), ← h.capt hpend]
    obtain ⟨capt, buf, rfl, -, hbuf⟩ := Block.agree_iff.1 h
    exact Block.agree_iff.2 ⟨_, buf, rfl, nofun, hbuf⟩
  | false =>
    rcases Nat.lt_or_ge b.idx.toNat p.cap with hcap | hfull
    · rw [Block.service_of_low hwire hcap, Block.service_of_low (h.wire_eq ▸ hwire) (h.idx ▸ hcap), ← h.capt hpend,
        ← h.prev, ← h.idx]
      have hwrite := fun j => h.read_write (b.capt - b.prev) (j := j)
      obtain ⟨capt, buf, rfl, -, -⟩ := Block.agree_iff.1 h
      exact Block.agree_iff.2 ⟨_, _, rfl, nofun, hwrite⟩
    · rw [Block.service_of_full hwire hfull, Block.service_of_full (h.wire_eq ▸ hwire) (h.idx ▸ hfull),
        ← h.capt hpend]
      obtain ⟨capt, buf, rfl, -, hbuf⟩ := Block.agree_iff.1 h
      exact Block.agree_iff.2 ⟨_, buf, rfl, nofun, hbuf⟩

end BlockAgreement

/-! ### Instructions and steps -/

/-- Whatever next state `r` answers, `q` answers one that agrees with it. -/
def ResultFollows (q r : Result) : Prop := ∀ s', r = .next s' → ∃ t', q = .next t' ∧ s'.Agree t'

section StateAgreement

variable {s t : State}

theorem State.Agree.serviceOwed_eq (h : s.Agree t) : s.serviceOwed = t.serviceOwed := by
  rw [State.serviceOwed, State.serviceOwed, h.params, h.block.serviceEnabled_eq]

theorem State.Agree.unlessOwed (h : s.Agree t) {n m : State} (hn : n.Agree m) :
    ResultFollows (unlessOwed t m) (unlessOwed s n) := by
  intro s' hs'
  obtain ⟨howed, rfl⟩ := unlessOwed_eq_next.1 hs'
  exact ⟨m, unlessOwed_of_not_owed m (h.serviceOwed_eq ▸ howed), hn⟩

/-- The response and the epoch are no part of the agreement, so steps end in agreement with the blocks they leave. -/
theorem State.Agree.complete (h : s.Agree t) {b c : Block} (hb : b.Agree c) : (s.complete b).Agree (t.complete c) :=
  ⟨h.params, h.trace, hb⟩

theorem State.Agree.hostRead (h : s.Agree t) (v w : Word) : ResultFollows (hostRead t w) (hostRead s v) :=
  h.unlessOwed ⟨h.params, h.trace, h.block⟩

theorem State.Agree.hostWrite (h : s.Agree t) {b c : Block} (hb : b.Agree c) :
    ResultFollows (hostWrite t c) (hostWrite s b) :=
  h.unlessOwed ⟨h.params, h.trace, hb⟩

theorem State.Agree.busFault (h : s.Agree t) (off : Offset) : ResultFollows (busFault t off) (busFault s off) :=
  h.unlessOwed ⟨h.params, h.trace, h.block⟩

theorem State.Agree.service (h : s.Agree t) : ResultFollows (exec .service t) (exec .service s) := by
  intro s' hs'
  by_cases hen : s.block.serviceEnabled = true
  · cases (exec_service_of_enabled hen).symm.trans hs'
    refine ⟨_, exec_service_of_enabled (h.block.serviceEnabled_eq ▸ hen), h.complete ?_⟩
    rw [← h.params]
    exact h.block.service (Block.serviceEnabled_iff.1 hen).2
  · cases (exec_service_of_not_enabled hen).symm.trans hs'

/-- Every instruction keeps the agreement: it ends as its kind of event does, with a block that agrees. -/
theorem State.Agree.exec (h : s.Agree t) (hs : s.Inv) (hk : s.params.trigTicks < 2 ^ 32) (i : Instr) :
    ResultFollows (exec i t) (exec i s) := by
  cases i with
  | tick =>
    refine h.unlessOwed (h.complete ?_)
    rw [← h.params]
    exact h.block.tick hs.block_inv hs.params_ok hk _ _ _ _
  | sensorLow => exact h.unlessOwed (h.complete (h.block.setSensor false))
  | sensorRelease => exact h.unlessOwed (h.complete (h.block.setSensor true))
  | service => exact h.service
  | evtReserved => exact fun _ hs' => by cases hs'
  | nop => exact h.hostWrite (h.block.command 0x0#4)
  | measure => exact h.hostWrite (h.block.command 0x1#4)
  | wrCtrl data => exact h.hostWrite (h.block.command (cmdField data))
  | cmdReserved | wrIgnored => exact h.hostWrite h.block
  | busErr off => exact h.busFault off
  | busRead off size =>
    cases hlegal : accessIllegal off size with
    | true =>
      rw [exec_busRead_of_illegal s hlegal, exec_busRead_of_illegal t hlegal]
      exact h.busFault off
    | false =>
      obtain ⟨rfl, haligned⟩ := accessIllegal_eq_false_iff.1 hlegal
      rw [exec_busRead_of_aligned s haligned, exec_busRead_of_aligned t haligned]
      exact h.hostRead _ _
  | busWrite off size data =>
    cases hlegal : accessIllegal off size with
    | true =>
      rw [exec_busWrite_of_illegal data s hlegal, exec_busWrite_of_illegal data t hlegal]
      exact h.busFault off
    | false =>
      obtain ⟨rfl, haligned⟩ := accessIllegal_eq_false_iff.1 hlegal
      rw [exec_busWrite_of_aligned data s haligned, exec_busWrite_of_aligned data t haligned]
      split
      case isTrue => exact h.hostWrite (h.block.command (cmdField data))
      case isFalse => exact h.hostWrite h.block
  | _ => exact h.hostRead _ _

end StateAgreement

/-- Settles O57: agreeing machines fetch the same event, and every instruction keeps the agreement. -/
theorem cycleAgreementIsKept : Obligations.CycleAgreementIsKept := by
  intro s t s' hs _ h hk hstep
  obtain ⟨ev, rest, i, htrace, hdecode, hexec⟩ := step_eq_next hstep
  have hfetched : State.Agree { s with trace := rest } { t with trace := rest } := ⟨h.params, rfl, h.block⟩
  rw [step_of_trace (h.trace ▸ htrace) hdecode]
  exact hfetched.exec ⟨hs.params_ok, hs.block_inv⟩ hk i s' hexec

theorem Block.Inv.drive_of_not_busy {p : Params} {b : Block} (h : b.Inv p) (hbusy : b.busy = false) :
    b.drive = false := by
  by_contra hdrive
  simp [Block.busy, h.drive_iff.1 (Bool.not_eq_false _ ▸ hdrive)] at hbusy

/-- Settles O56: outside a cycle neither machine is armed or drives the line, so what the cycle reset keeps is the
same. -/
theorem measureForgetsEarlierCycles : Obligations.MeasureForgetsEarlierCycles := by
  intro i s t hs ht hm hsbusy htbusy hparams htrace hcnt hsensor
  have hsarmed := hs.block_inv.not_armed_of_not_busy hsbusy
  have htarmed := ht.block_inv.not_armed_of_not_busy htbusy
  have hdrive : s.block.drive = t.block.drive :=
    (hs.block_inv.drive_of_not_busy hsbusy).trans (ht.block_inv.drive_of_not_busy htbusy).symm
  obtain ⟨_, hexec⟩ := exec_measure_of_not_busy hm (State.not_owed_of_not_armed hsarmed) hsbusy
  obtain ⟨_, hexec'⟩ := exec_measure_of_not_busy hm (State.not_owed_of_not_armed htarmed) htbusy
  exact ⟨_, _, hexec, hexec', hparams, htrace,
    Block.acceptMeasure_agree hcnt (hsarmed.trans htarmed.symm) hdrive hsensor⟩

end Sys2Proof.Machine
end
